-- ==== Sys2Proof/Word.lean ====
section
/-! DEFINITION. The widths of the register-access controller (RAC): bytes, 7-bit register addresses and two-byte frames
(spec/00_scope.md R9, R10). -/

namespace Sys2Proof

/-- A register value, and every byte on the wire or in a command (R9). -/
abbrev Byte := BitVec 8

/-- A register address: 7 bits (R9, R43). -/
abbrev Addr7 := BitVec 7

/-- A frame `[b0, b1]`, byte 0 first on the wire (R10, R44): a request or a response of one exchange. -/
structure Frame where
  b0 : Byte
  b1 : Byte
deriving DecidableEq, Repr, Inhabited

end Sys2Proof
end

