-- ==== Sys2Proof/Config.lean ====
section
/-! DEFINITION. What an implementation fixes and what the spec leaves open: the type of the transport configuration record
(spec/10_state.md R31), the two configuration tables the source does not list (spec/00_scope.md R7,
spec/92_eei_decisions.md D14), and the free values of state whose contents the spec calls unspecified
(spec/10_state.md R22, R40; spec/93_implementation_defined.md I14).  The numeric constants of R6 and R8 stand in
Sys2Proof/Machine/Params.lean. -/

namespace Sys2Proof

/-- Bit order of the transport (R6 `BIT_ORDER`, R31). -/
inductive BitOrder where
  | msbFirst
  | lsbFirst
deriving DecidableEq, Repr

/-- Clock mode of the transport (R6 `CLOCK_MODE`, R31). -/
inductive ClockMode where
  | mode0
  | mode1
  | mode2
  | mode3
deriving DecidableEq, Repr

/-- The transport configuration record `XCFG`, four fields (R31). -/
structure XCfg where
  wordSize   : Nat
  maxClockHz : Nat
  bitOrder   : BitOrder
  clockMode  : ClockMode
deriving DecidableEq, Repr

/-- The controller phase `PHASE` (R26).  The unused encoding 3 has no constructor: it is never held. -/
inductive Phase where
  | uninitialized
  | identified
  | configured
deriving DecidableEq, Repr, Inhabited

/-- `B1_LEN` (R6): entries of configuration batch 1. -/
abbrev Config.b1Len : Nat := 55

/-- `B2_LEN` (R6): entries of configuration batch 2. -/
abbrev Config.b2Len : Nat := 14

/-- `CONFIG_B1` (R7): the source gives the length and the order contract but not one entry (N1, D14), so the table is a
constant without a body.  Its type carries the premise of R7: exactly `B1_LEN` entries, every address 7 bits wide. -/
opaque Config.configB1 : Vector (Addr7 × Byte) Config.b1Len

/-- `CONFIG_B2` (R7), as `Config.configB1`. -/
opaque Config.configB2 : Vector (Addr7 × Byte) Config.b2Len

/-- What `OUTBUF` and `INBUF` hold after a command that exchanges frames has ended: unspecified (R22), a free value of the
model's counter `State.fresh`. -/
opaque Config.staleFrames : Nat → List Frame

/-- What `K` holds after a command that exchanges frames has ended: any value (I14). -/
opaque Config.staleIndex : Nat → Nat

/-- What `PHASE` holds while no handle is open, after a CLOSE or a failed OPEN: unspecified, not read (R40, I14). -/
opaque Config.stalePhase : Nat → Phase

end Sys2Proof
end

