-- ==== Sys2Proof/Machine/Params.lean ====
section
/-! DEFINITION. The constants of spec/00_scope.md R6 and the decided parameters of R8.  Every numeric literal of the source
is unaudited (spec/93_implementation_defined.md I1), so each stands here once, by name. -/

namespace Sys2Proof.Machine

/-- `HANDSHAKE` (R6). -/
def handshake : Byte := 0xFF#8

/-- `WRITE_FLAG` (R6): bit 7 of request byte 0. -/
def writeFlag : Byte := 0x80#8

/-- `READ_FILL` (R6): request byte 1 of a read frame. -/
def readFill : Byte := 0x00#8

/-- `REG_POR` (R6). -/
def regPor : Byte := 0x3A#8

/-- `POR_VALUE` (R6). -/
def porValue : Byte := 0x5A#8

/-- `REG_PID` (R6). -/
def regPid : Byte := 0x00#8

/-- `PID_EXPECTED` (R6). -/
def pidExpected : Byte := 0x49#8

/-- `REG_IPID` (R6). -/
def regIpid : Byte := 0x5F#8

/-- `IPID_EXPECTED` (R6). -/
def ipidExpected : Byte := 0xB6#8

/-- `MOTION_REGS` (R6): the registers of one sample read, in order. -/
def motionRegs : List Byte := [0x02#8, 0x03#8, 0x04#8, 0x05#8, 0x06#8]

/-- `SETTLE_MS` and its lower-bound reading `SETTLE_MIN_MS` (R6, R8). -/
def settleMs : Nat := 100

/-- `XCFG_CONST` (R100): `WORD_SIZE`, `MAX_CLOCK_HZ`, `BIT_ORDER`, `CLOCK_MODE` of R6. -/
def xcfgConst : XCfg :=
  { wordSize := 8, maxClockHz := 2000000, bitOrder := .msbFirst, clockMode := .mode3 }

/-- `WB_CHECK_BYTE1` (R8, D6): batched writes validate response byte 1. -/
def wbCheckByte1 : Bool := true

/-- `MAX_BATCH` (R8, D20): the largest batch a command can carry. -/
def maxBatch : Nat := 255

/-- `FRAME_BYTES` (R6): bytes per frame. -/
def frameBytes : Nat := 2

end Sys2Proof.Machine
end

