-- ==== Sys2Proof/Machine/Operands.lean ====
section
/-! DEFINITION. Operand forms: how a request frame is assembled from its operands and how a response becomes a value
(spec/30_encoding.md R62, R63, R66, R68), and the address contract of spec/20_memory.md R48. -/

namespace Sys2Proof.Machine

/-- The read request frame `[a, READ_FILL]` (R62, R66). -/
def readFrame (a : Byte) : Frame := ⟨a, readFill⟩

/-- The write request frame `[a | WRITE_FLAG, v]` (R63, R66). -/
def writeFrame (a v : Byte) : Frame := ⟨a ||| writeFlag, v⟩

/-- `a & 0x80 ≠ 0`: the byte is not a register address (R48, R73). -/
def isIllegalAddr (a : Byte) : Bool := (a &&& writeFlag) != 0#8

/-- The lowest operand position, counted from `i`, whose address has bit 7 set, with that address (R91, R92). -/
def firstIllegal (i : Nat) : List Byte → Option (Nat × Byte)
  | [] => none
  | a :: rest => if isIllegalAddr a then some (i, a) else firstIllegal (i + 1) rest

/-- The frames of a batched read, one per address, in operand order (R85, R98). -/
def readFrames (addrs : List Byte) : List Frame := addrs.map readFrame

/-- The frames of a batched write, one per pair, in operand order (R86, R98). -/
def writeFrames (pairs : List (Byte × Byte)) : List Frame := pairs.map fun p => writeFrame p.1 p.2

/-- The entries of a configuration table as operand pairs, in table order (R109, R111). -/
def tablePairs {n : Nat} (t : Vector (Addr7 × Byte) n) : List (Byte × Byte) :=
  t.toList.map fun e => (e.1.setWidth 8, e.2)

/-- `CONFIG_B1` as operand pairs (R109). -/
def batch1 : List (Byte × Byte) := tablePairs Config.configB1

/-- `CONFIG_B2` as operand pairs (R111). -/
def batch2 : List (Byte × Byte) := tablePairs Config.configB2

/-- `hi ++ lo` (R10): the 16-bit value with `hi` in bits 15..8; read as two's complement it is a sample coordinate (R68). -/
def coordinate (hi lo : Byte) : BitVec 16 := hi ++ lo

end Sys2Proof.Machine
end

