-- ==== Sys2Proof/Syntax.lean ====
section
/-! DEFINITION. The instructions: one constructor per row of spec/opcode_table.json.  Nine commands of the caller-facing
interface (spec/30_encoding.md R69) and the two wire request frames (R62, R63). -/

namespace Sys2Proof

/-- Address operands of commands are whole bytes: their bit 7 is checked by the command, not by the decoder (R70, R73).
The wire frames carry a 7-bit address (R62, R63). -/
inductive Instr where
  /-- `OPEN bus, cs` (R101) -/
  | openCh (bus cs : Byte)
  /-- `CLOSE` (R103) -/
  | closeCh
  /-- `SETDBG d` (R104) -/
  | setdbg (d : Byte)
  /-- `RDREG a` (R83) -/
  | rdreg (a : Byte)
  /-- `WRREG a, v` (R84) -/
  | wrreg (a v : Byte)
  /-- `RDREGS [a0, ...]` (R85) -/
  | rdregs (addrs : List Byte)
  /-- `WRREGS [(a0, v0), ...]` (R86) -/
  | wrregs (pairs : List (Byte × Byte))
  /-- `INIT` (R105) -/
  | init
  /-- `RDSAMPLE` (R117) -/
  | rdsample
  /-- `RDF`, the read request frame `[addr, 0x00]` (R62) -/
  | rdf (addr : Addr7)
  /-- `WRF`, the write request frame `[addr | 0x80, val]` (R63) -/
  | wrf (addr : Addr7) (val : Byte)
deriving DecidableEq, Repr

/-- The two instruction formats of R61: a command byte string the caller presents, or a two-byte request frame the RAC sends.
They are separate code spaces: a byte string is read in the format of the place it stands in. -/
inductive Format where
  | cmd
  | frame16
deriving DecidableEq, Repr

/-- The format of each row of the opcode table (R79). -/
def Instr.format : Instr → Format
  | .openCh _ _ => .cmd
  | .closeCh => .cmd
  | .setdbg _ => .cmd
  | .rdreg _ => .cmd
  | .wrreg _ _ => .cmd
  | .rdregs _ => .cmd
  | .wrregs _ => .cmd
  | .init => .cmd
  | .rdsample => .cmd
  | .rdf _ => .frame16
  | .wrf _ _ => .frame16

end Sys2Proof
end

