-- ==== Sys2Proof/Decode.lean ====
section
/-! DEFINITION. The decoders, total on any bytes, and after them the encoder.  A command byte string is decoded by
spec/30_encoding.md R69 to R72, a request frame by R62 and R63.  What does not decode is rejected by name. -/

namespace Sys2Proof

/-- Why bytes are no instruction. -/
inductive DecodeError where
  /-- opcode not in R69's table (R72) -/
  | reservedOpcode
  /-- shorter than the decoded length, the empty string included (R71) -/
  | truncated
  /-- a frame with bit 7 of byte 0 clear and byte 1 other than `READ_FILL`: no pattern of R62 or R63 (R75) -/
  | undefinedFrame
deriving DecidableEq, Repr

/-- R69: code of `OPEN`. -/
def opOpen : Byte := 0x01#8
/-- R69: code of `CLOSE`. -/
def opClose : Byte := 0x02#8
/-- R69: code of `SETDBG`. -/
def opSetdbg : Byte := 0x03#8
/-- R69: code of `RDREG`. -/
def opRdreg : Byte := 0x10#8
/-- R69: code of `WRREG`. -/
def opWrreg : Byte := 0x11#8
/-- R69: code of `RDREGS`. -/
def opRdregs : Byte := 0x12#8
/-- R69: code of `WRREGS`. -/
def opWrregs : Byte := 0x13#8
/-- R69: code of `INIT`. -/
def opInit : Byte := 0x20#8
/-- R69: code of `RDSAMPLE`. -/
def opRdsample : Byte := 0x21#8

/-- Operands `bus`, `cs` of `OPEN` (R69). -/
def decodeOpen : List Byte → Except DecodeError (Instr × List Byte)
  | bus :: cs :: rest => .ok (.openCh bus cs, rest)
  | _ => .error .truncated

/-- Operand `d` of `SETDBG` (R69, R76: its value is judged when the command runs). -/
def decodeSetdbg : List Byte → Except DecodeError (Instr × List Byte)
  | d :: rest => .ok (.setdbg d, rest)
  | _ => .error .truncated

/-- Operand `a` of `RDREG` (R69, R70). -/
def decodeRdreg : List Byte → Except DecodeError (Instr × List Byte)
  | a :: rest => .ok (.rdreg a, rest)
  | _ => .error .truncated

/-- Operands `a`, `v` of `WRREG` (R69, R70). -/
def decodeWrreg : List Byte → Except DecodeError (Instr × List Byte)
  | a :: v :: rest => .ok (.wrreg a v, rest)
  | _ => .error .truncated

/-- `n` address bytes (R69 `RDREGS`). -/
def takeAddrs : Nat → List Byte → Except DecodeError (List Byte × List Byte)
  | 0, rest => .ok ([], rest)
  | n + 1, a :: rest =>
    match takeAddrs n rest with
    | .ok (as', rest') => .ok (a :: as', rest')
    | .error e => .error e
  | _ + 1, [] => .error .truncated

/-- `n` pairs of an address byte and a value byte (R69 `WRREGS`). -/
def takePairs : Nat → List Byte → Except DecodeError (List (Byte × Byte) × List Byte)
  | 0, rest => .ok ([], rest)
  | n + 1, a :: v :: rest =>
    match takePairs n rest with
    | .ok (ps, rest') => .ok ((a, v) :: ps, rest')
    | .error e => .error e
  | _ + 1, _ => .error .truncated

/-- The count byte `n` and `n` addresses (R70, R71). -/
def decodeRdregs : List Byte → Except DecodeError (Instr × List Byte)
  | n :: rest =>
    match takeAddrs n.toNat rest with
    | .ok (addrs, rest') => .ok (.rdregs addrs, rest')
    | .error e => .error e
  | [] => .error .truncated

/-- The count byte `n` and `n` address and value pairs (R70, R71). -/
def decodeWrregs : List Byte → Except DecodeError (Instr × List Byte)
  | n :: rest =>
    match takePairs n.toNat rest with
    | .ok (pairs, rest') => .ok (.wrregs pairs, rest')
    | .error e => .error e
  | [] => .error .truncated

/-- The command at the head of a byte string and the bytes after it.  The opcode is matched on all 8 bits (R69). -/
def decodeCmd : List Byte → Except DecodeError (Instr × List Byte)
  | [] => .error .truncated
  | op :: rest =>
    if op = opOpen then decodeOpen rest
    else if op = opClose then .ok (.closeCh, rest)
    else if op = opSetdbg then decodeSetdbg rest
    else if op = opRdreg then decodeRdreg rest
    else if op = opWrreg then decodeWrreg rest
    else if op = opRdregs then decodeRdregs rest
    else if op = opWrregs then decodeWrregs rest
    else if op = opInit then .ok (.init, rest)
    else if op = opRdsample then .ok (.rdsample, rest)
    else .error .reservedOpcode

/-- The request frame a frame is (R62 match `0x0000` mask `0x80FF`, R63 match `0x8000` mask `0x8000`). -/
def decodeFrame (f : Frame) : Except DecodeError Instr :=
  if Machine.isIllegalAddr f.b0 then .ok (.wrf (f.b0.setWidth 7) f.b1)
  else if f.b1 = Machine.readFill then .ok (.rdf (f.b0.setWidth 7))
  else .error .undefinedFrame

/-- The instruction at the head of a byte string read in a given format, and the bytes after it (R61). -/
def decode : Format → List Byte → Except DecodeError (Instr × List Byte)
  | .cmd, bytes => decodeCmd bytes
  | .frame16, b0 :: b1 :: rest =>
    match decodeFrame ⟨b0, b1⟩ with
    | .ok i => .ok (i, rest)
    | .error e => .error e
  | .frame16, _ => .error .truncated

/-- The bytes of an instruction in its format, first byte first (R62, R63, R69).  The count byte of a batch is `n`; the term
has an encoding when `n ≤ MAX_BATCH` (`Instr.WellFormed`). -/
def encode : Instr → List Byte
  | .openCh bus cs => [opOpen, bus, cs]
  | .closeCh => [opClose]
  | .setdbg d => [opSetdbg, d]
  | .rdreg a => [opRdreg, a]
  | .wrreg a v => [opWrreg, a, v]
  | .rdregs addrs => opRdregs :: BitVec.ofNat 8 addrs.length :: addrs
  | .wrregs pairs => opWrregs :: BitVec.ofNat 8 pairs.length :: pairs.flatMap fun p => [p.1, p.2]
  | .init => [opInit]
  | .rdsample => [opRdsample]
  | .rdf addr => [(Machine.readFrame (addr.setWidth 8)).b0, (Machine.readFrame (addr.setWidth 8)).b1]
  | .wrf addr val => [(Machine.writeFrame (addr.setWidth 8) val).b0, (Machine.writeFrame (addr.setWidth 8) val).b1]

/-- The total length in bytes of R69's table and of a frame (R9). -/
def encodedLength : Instr → Nat
  | .openCh _ _ => 3
  | .closeCh => 1
  | .setdbg _ => 2
  | .rdreg _ => 2
  | .wrreg _ _ => 3
  | .rdregs addrs => 2 + addrs.length
  | .wrregs pairs => 2 + 2 * pairs.length
  | .init => 1
  | .rdsample => 1
  | .rdf _ => Machine.frameBytes
  | .wrf _ _ => Machine.frameBytes

/-- Bytes of the longest command: `WRREGS` with `MAX_BATCH` pairs (R69, R97). -/
def maxCmdBytes : Nat := 2 + 2 * Machine.maxBatch

/-- The `n` lowest bytes of a number, least significant first. -/
def bytesOfNat : Nat → Nat → List Byte
  | 0, _ => []
  | n + 1, w => BitVec.ofNat 8 w :: bytesOfNat n (w / 256)

/-- The bytes of a CMD row's word, operand bytes the table gives no bits being 0. -/
def tableCmdBytes (nbits w : Nat) : List Byte :=
  bytesOfNat (nbits / 8) w ++ List.replicate (maxCmdBytes - nbits / 8) 0#8

/-- The frame of a FRAME16 row's word: byte 0 in bits 15..8, byte 1 in bits 7..0 (R61). -/
def tableFrame (w : Nat) : Frame := ⟨BitVec.ofNat 8 (w / 256), BitVec.ofNat 8 w⟩

/-- The instruction the decoders read from a row of spec/opcode_table.json: a 16-bit row is a FRAME16, any other a CMD. -/
def decodeTableWord (nbits w : Nat) : Option Instr :=
  if nbits = 16 then
    match decodeFrame (tableFrame w) with
    | .ok i => some i
    | .error _ => none
  else
    match decodeCmd (tableCmdBytes nbits w) with
    | .ok (i, _) => some i
    | .error _ => none

end Sys2Proof
end

