-- ==== Sys2Proof/Machine/State.lean ====
section
/-! DEFINITION. The state of the register-access controller (spec/10_state.md R20 to R37), the reasons a step can stop, and
the state at instantiation (R40, spec/70_reset_and_hazards.md R144).  The block has no memory (spec/20_memory.md R42) and the
sensor's register bank is not its state (R36).  Beside the spec's state stand, as plain data, what the outside world will do
(the caller's byte strings, the transport's answers) and the model's own bookkeeping; each field says which it is. -/

namespace Sys2Proof.Machine

/-- The sequencer stage `SEQ` (R23). -/
inductive Seq where
  | por
  | pid
  | ipid
  | b1
  | delay
  | b2
  | idle
  | run
deriving DecidableEq, Repr

/-- A transport channel, identified by its bus and chip-select indices (R30). -/
structure Channel where
  bus : Byte
  cs  : Byte
deriving DecidableEq, Repr

/-- The transport primitive in progress (spec/00_scope.md R11): which call the RAC is blocked in. -/
inductive Pending where
  | tOpen
  | tConfigure
  | tRelease
  | xfer
  | xferBatch
  | delay
deriving DecidableEq, Repr

/-- The `call` field of a `TransportError` (spec/60_exceptions.md R125). -/
inductive TransportCall where
  | openCall
  | configure
  | transfer
  | transferBatch
deriving DecidableEq, Repr

/-- An error record `E(info)` (R125). -/
inductive ErrorRec where
  | transportError (call : TransportCall)
  | unexpectedHandshake (frame : Nat) (byte : Fin 2) (got : Byte)
  | identityMismatch (reg expected got : Byte)
  | callerContractViolation (index : Nat) (addr : Byte)
deriving DecidableEq, Repr

/-- A motion sample; each coordinate is the 16-bit two's-complement word of spec/30_encoding.md R68, its value `toInt`. -/
structure MotionSample where
  x : BitVec 16
  y : BitVec 16
deriving DecidableEq, Repr

/-- The value of a command that ended with a result (R34). -/
inductive Value where
  | unit
  | byte (b : Byte)
  | bytes (bs : List Byte)
  | sample (m : MotionSample)
deriving DecidableEq, Repr

/-- The outcome of a command that ended (R34). -/
inductive Result where
  | ok (v : Value)
  | err (e : ErrorRec)
deriving DecidableEq, Repr

/-- What a debug event reports (spec/41_device_controller.md R116). -/
inductive LogItem where
  | productId
  | inverseProductId
deriving DecidableEq, Repr

/-- An event of the history `H` (R37).  A failed transfer's answer is `none` (`TransportError`). -/
inductive Event where
  | opened (bus cs : Byte) (ok : Bool)
  | configured (cfg : XCfg) (ok : Bool)
  | xfer (out : Frame) (ans : Option Frame)
  | xferBatch (outs : List Frame) (ans : Option (List Frame))
  | delayed (ms : Nat)
  | released
  | logged (item : LogItem) (v : Byte)
deriving DecidableEq, Repr

/-- What the transport or the delay timer returns (R39).  `ok ins` answers a transfer of `ins.length` frames; with any other
number of frames it stands for `TransportError`, so that every answer means one the oracle may give.  To `TOpen` and
`TConfigure` any `ok` is success; `TRelease` and the delay cannot fail, so any answer ends them. -/
inductive Answer where
  | fail
  | ok (ins : List Frame)
deriving DecidableEq, Repr

/-- The next thing that happens at the RAC's transport side while a call is in progress: it returns, or it is still not back
and the caller has a turn. -/
inductive Reply where
  | pending
  | answer (a : Answer)
deriving DecidableEq, Repr

/-- The refusal reasons, a closed list (spec/60_exceptions.md R137). -/
inductive RefuseReason where
  | reservedOpcode
  | truncated
  | busy
  | notOpen
  | alreadyOpen
  | unusable
  | reservedOperand
  | alreadyInitialized
deriving DecidableEq, Repr

/-- Why the machine stops. -/
inductive Fault where
  /-- raised by `step` when a command is in progress, its transport call or delay never returns and the caller presents
  nothing: a hang, to which the spec gives no successor (R14, R156); safe: no state follows -/
  | blocked
  /-- raised by `step` when a command is in progress without a transport call and `OUTBUF` is not one defined request frame: the
  spec defines no such frame (R75) and no run reaches it; safe: no state follows -/
  | undefinedFrame
deriving DecidableEq, Repr

/-- Why an instruction has no meaning where it stands. -/
inductive Refusal where
  /-- raised by `exec` for an instruction that has no meaning yet; safe: no state follows -/
  | notModelled (mnemonic : String)
  /-- raised by `RDF` and `WRF` where no command is in progress or another transport call is: the spec has frames only inside a
  command, one transport call at a time (R61, R131); safe: no state follows -/
  | frameOutsideTransfer
deriving DecidableEq, Repr

/-- The state.  `isOpen` to `hist` are the spec's (R20); `call` is implied by it; the rest is the model's own. -/
structure State where
  /-- `OPEN` (R30) -/
  isOpen    : Bool
  /-- `CH` (R30) -/
  ch        : Option Channel
  /-- `XCFG` (R31) -/
  xcfg      : Option XCfg
  /-- `PHASE` (R26) -/
  phase     : Phase
  /-- `UNUSABLE` (R28) -/
  unusable  : Bool
  /-- `DEBUG` (R29) -/
  debug     : Bool
  /-- `CMD` (R32) -/
  cmd       : Option Instr
  /-- `SEQ` (R23) -/
  seq       : Seq
  /-- `K` (R24) -/
  k         : Nat
  /-- `OUTBUF` (R21) -/
  outbuf    : List Frame
  /-- `INBUF` (R21) -/
  inbuf     : List Frame
  /-- `RES` (R34) -/
  res       : Option Result
  /-- `REFUSED` (R33) -/
  refused   : Bool
  /-- `H` (R37), oldest event first -/
  hist      : List Event
  /-- the transport call or delay in progress: implied by R13 and R21 -/
  call      : Option Pending
  /-- the caller (R12): the byte strings it presents, first one next -/
  presented : List (List Byte)
  /-- the transport and the delay timer (R12, R39): what they do, first next; after the last one no call returns -/
  replies   : List Reply
  /-- the model's own: the reason of the last refusal (R137) -/
  reason    : Option RefuseReason
  /-- the model's own: the counter the free values are drawn at -/
  fresh     : Nat
deriving DecidableEq, Repr

/-- The state at instantiation: R40, column 'before first OPEN'.  `PHASE`, `OUTBUF` and `INBUF` are unspecified there and hold
the values named in the assumption log. -/
def State.reset : State :=
  { isOpen := false, ch := none, xcfg := none, phase := .uninitialized, unusable := false, debug := false,
    cmd := none, seq := .idle, k := 0, outbuf := [], inbuf := [], res := none, refused := false, hist := [],
    call := none, presented := [], replies := [], reason := none, fresh := 0 }

end Sys2Proof.Machine
end

