-- ==== Sys2Proof/Machine/Flags.lean ====
section
/-! DEFINITION. The numeric views of the control state (spec/10_state.md R23, R26, R32, R35; spec/60_exceptions.md R125) and the
handshake checks, which are the only tests the block makes of device data beside the identity checks
(spec/40_register_protocol.md R81, R82). -/

namespace Sys2Proof.Machine

/-- Encoding of `PHASE` (R26). -/
def phaseCode : Phase → BitVec 2
  | .uninitialized => 0#2
  | .identified => 1#2
  | .configured => 2#2

/-- Encoding of `SEQ` (R23). -/
def seqCode : Seq → Nat
  | .por => 0
  | .pid => 1
  | .ipid => 2
  | .b1 => 3
  | .delay => 4
  | .b2 => 5
  | .idle => 6
  | .run => 7

/-- Code of the `call` field of a `TransportError` (R125). -/
def callCode : TransportCall → Nat
  | .openCall => 0
  | .configure => 1
  | .transfer => 2
  | .transferBatch => 3

/-- Numeric error code of an outcome (R125): 0 for a result. -/
def resultCode : Result → Nat
  | .ok _ => 0
  | .err (.transportError _) => 1
  | .err (.unexpectedHandshake _ _ _) => 2
  | .err (.identityMismatch _ _ _) => 3
  | .err (.callerContractViolation _ _) => 4

/-- `BUSY`: a command is in progress (R32). -/
def isBusy (s : State) : Bool := s.cmd.isSome

/-- The view `STATUS` (R35), bit 7 first: reserved 0, `REFUSED`, `BUSY`, `DEBUG`, `UNUSABLE`, `PHASE`, `OPEN`. -/
def status (s : State) : BitVec 8 :=
  0#1 ++ BitVec.ofBool s.refused ++ BitVec.ofBool (isBusy s) ++ BitVec.ofBool s.debug ++ BitVec.ofBool s.unusable ++
    phaseCode s.phase ++ BitVec.ofBool s.isOpen

/-- A read response frame is valid when byte 0 is the handshake (spec/30_encoding.md R64). -/
def readOk (f : Frame) : Bool := f.b0 == handshake

/-- A write response frame is valid when byte 0, and byte 1 where it is checked, are the handshake (R65, R82). -/
def writeOk (check1 : Bool) (f : Frame) : Bool := f.b0 == handshake && (!check1 || f.b1 == handshake)

/-- The loop of `ValidateRead` from index `k` on (R81). -/
def validateReadFrom (k : Nat) : List Frame → Except ErrorRec (List Byte)
  | [] => .ok []
  | f :: rest =>
    if f.b0 ≠ handshake then .error (.unexpectedHandshake k 0 f.b0)
    else
      match validateReadFrom (k + 1) rest with
      | .ok vals => .ok (f.b1 :: vals)
      | .error e => .error e

/-- `ValidateRead(ins)` (R81). -/
def validateRead (ins : List Frame) : Except ErrorRec (List Byte) := validateReadFrom 0 ins

/-- The loop of `ValidateWrite` from index `k` on, byte 0 before byte 1 (R82, R93). -/
def validateWriteFrom (check1 : Bool) (k : Nat) : List Frame → Except ErrorRec Unit
  | [] => .ok ()
  | f :: rest =>
    if f.b0 ≠ handshake then .error (.unexpectedHandshake k 0 f.b0)
    else if check1 ∧ f.b1 ≠ handshake then .error (.unexpectedHandshake k 1 f.b1)
    else validateWriteFrom check1 (k + 1) rest

/-- `ValidateWrite(ins, check1)` (R82). -/
def validateWrite (check1 : Bool) (ins : List Frame) : Except ErrorRec Unit := validateWriteFrom check1 0 ins

/-- The value `K` has when a validation loop ends: the index of the first frame that fails, else of the last frame, and 0 for
no frame (R24). -/
def finalIndex (good : Frame → Bool) : List Frame → Nat
  | [] => 0
  | [_] => 0
  | f :: g :: rest => if good f then 1 + finalIndex good (g :: rest) else 0

end Sys2Proof.Machine
end

