-- ==== Sys2Proof/Machine/Ops.lean ====
section
/-! DEFINITION. The operations the commands share: admission and refusal, the end of a command by result or by error, the issue
of a transport call, and what an answer means (spec/40_register_protocol.md R80, R90; spec/60_exceptions.md R133, R137;
spec/00_scope.md R11). -/

namespace Sys2Proof.Machine

/-- The admission checks, in R80's order; the reserved opcode of its first line is the decoder's rejection.  `none`: admitted. -/
def admission (c : Instr) (s : State) : Option RefuseReason :=
  if isBusy s then some .busy
  else if !s.isOpen && !(c matches .openCh _ _) then some .notOpen
  else if s.isOpen && (c matches .openCh _ _) then some .alreadyOpen
  else if s.unusable && !(c matches .closeCh) then some .unusable
  else none

/-- A refusal: `REFUSED` is set and stays set, `RES` and everything else are unchanged (R15, R33, R137). -/
def refuse (r : RefuseReason) (s : State) : State := { s with refused := true, reason := some r }

/-- The first stage of an admitted command (R80). -/
def firstStage : Instr → Seq
  | .init => .por
  | _ => .run

/-- An admitted command becomes the command in progress; it has made no transport call yet (R80). -/
def begin (c : Instr) (s : State) : State := { s with cmd := some c, seq := firstStage c, call := none }

/-- A refusal of an admitted command by its own check returns `CMD` and `SEQ` to idle (R80). -/
def refuseAdmitted (r : RefuseReason) (s : State) : State := refuse r { s with cmd := none, seq := .idle }

/-- An event is appended to the history; it is never truncated (R37). -/
def record (e : Event) (s : State) : State := { s with hist := s.hist ++ [e] }

/-- `finish(r)` (R80). -/
def finish (r : Result) (s : State) : State := { s with res := some r, cmd := none, seq := .idle, call := none }

/-- `OUTBUF` and `INBUF` are lost: what they hold now is unspecified (R22, R40, I14), free values. -/
def loseFrames (s : State) : State :=
  { s with outbuf := Config.staleFrames s.fresh, inbuf := Config.staleFrames (s.fresh + 1), fresh := s.fresh + 2 }

/-- After a command that exchanges frames has ended the contents of `OUTBUF`, `INBUF` and `K` are unspecified (R22, I14): free
values. -/
def loseBuffers (s : State) : State :=
  let t := loseFrames s
  { t with k := Config.staleIndex t.fresh, fresh := t.fresh + 1 }

/-- `return v` of a command that exchanges frames (R80). -/
def returnValue (v : Value) (s : State) : State := loseBuffers (finish (.ok v) s)

/-- `raise E(info)`, the one entry into the error outcome (R133): `RES` takes the record, the command ends, and if it is `INIT`
the handle becomes unusable first (R113).  There is no handler, no saved context and no return from it (R135). -/
def raiseError (e : ErrorRec) (s : State) : State :=
  finish (.err e) { s with unusable := s.unusable || decide (s.cmd = some .init) }

/-- `raise E(info)` in a command that exchanges frames. -/
def raiseAccess (e : ErrorRec) (s : State) : State := loseBuffers (raiseError e s)

/-- The state of no handle (R40, columns 'after failed OPEN' and 'after CLOSE'): `PHASE` is unspecified there, a free value. -/
def dropHandle (s : State) : State :=
  { s with isOpen := false, ch := none, xcfg := none, unusable := false, debug := false, k := 0,
           phase := Config.stalePhase s.fresh, fresh := s.fresh + 1 }

/-- The RAC calls a primitive of the transport and blocks in it until it returns (R11, R13). -/
def issue (c : Pending) (s : State) : State := { s with call := some c }

/-- The call in progress has returned. -/
def endCall (s : State) : State := { s with call := none }

/-- What the transport side will do from here on. -/
def setReplies (rs : List Reply) (s : State) : State := { s with replies := rs }

/-- `SEQ <- q` (R23). -/
def setSeq (q : Seq) (s : State) : State := { s with seq := q }

/-- `PHASE <- p` (R26). -/
def setPhase (p : Phase) (s : State) : State := { s with phase := p }

/-- `CH <- r` (R101). -/
def setChannel (c : Channel) (s : State) : State := { s with ch := some c }

/-- `DEBUG <- b` (R104). -/
def setDebug (b : Bool) (s : State) : State := { s with debug := b }

/-- A configured channel becomes the open handle (R101, R40 column 'after successful OPEN'). -/
def freshHandle (s : State) : State :=
  { s with isOpen := true, xcfg := some xcfgConst, phase := .uninitialized, unusable := false, debug := false, k := 0 }

/-- `OUTBUF <- [f]; Xfer(OUTBUF[0])`. -/
def issueXfer (f : Frame) (s : State) : State := issue .xfer { s with outbuf := [f] }

/-- `OUTBUF <- outs; XferBatch(OUTBUF)`. -/
def issueBatch (outs : List Frame) (s : State) : State := issue .xferBatch { s with outbuf := outs }

/-- `OUTBUF <- [...]; XferBatch(OUTBUF)` of a batched read, after the contract check of its addresses (R85, R92). -/
def startBatchRead (addrs : List Byte) (s : State) : State :=
  match firstIllegal 0 addrs with
  | some (i, a) => raiseAccess (.callerContractViolation i a) s
  | none => issueBatch (readFrames addrs) s

/-- The same of a batched write (R86, R91) and of the stages `S_B1` and `S_B2` (R109, R111). -/
def startBatchWrite (pairs : List (Byte × Byte)) (s : State) : State :=
  match firstIllegal 0 (pairs.map Prod.fst) with
  | some (i, a) => raiseAccess (.callerContractViolation i a) s
  | none => issueBatch (writeFrames pairs) s

/-- `INBUF <- ins`, and `K` runs over the frames until the validation loop ends (R21, R24). -/
def receive (good : Frame → Bool) (ins : List Frame) (s : State) : State :=
  { s with inbuf := ins, k := finalIndex good ins }

/-- A failed transport call brings no inbound frame (R21, spec/20_memory.md R60). -/
def receiveNothing (s : State) : State := { s with inbuf := [] }

/-- What an answer means to `TOpen` and `TConfigure`: success or `TransportError` (R39). -/
def answerOk : Answer → Bool
  | .ok _ => true
  | .fail => false

/-- What an answer means to `Xfer`: one inbound frame, or `none` for `TransportError` (R39). -/
def answerOne : Answer → Option Frame
  | .ok [f] => some f
  | _ => none

/-- What an answer means to `XferBatch` of `n` frames: `n` inbound frames, or `none` for `TransportError` (R39). -/
def answerMany (n : Nat) : Answer → Option (List Frame)
  | .ok ins => if ins.length = n then some ins else none
  | .fail => none

end Sys2Proof.Machine
end

