-- ==== Sys2Proof/Machine/Handle.lean ====
section
/-! DEFINITION. `OPEN`, `CLOSE` and `SETDBG` (spec/41_device_controller.md R101, R103, R104): what each does when it is
admitted, and what it does when the transport call it waits for returns. -/

namespace Sys2Proof.Machine

/-- `OPEN`: `TOpen(bus, cs)` (R101). -/
def startOpen (s : State) : State := issue .tOpen s

/-- `TOpen` has returned (R101). -/
def openReturned (bus cs : Byte) (a : Answer) (s : State) : State :=
  let t := record (.opened bus cs (answerOk a)) s
  if answerOk a then issue .tConfigure (setChannel ⟨bus, cs⟩ t)
  else raiseError (.transportError .openCall) (dropHandle t)

/-- `TConfigure` has returned: the handle is open, or the channel is to be released (R101, D17). -/
def configureReturned (a : Answer) (s : State) : State :=
  let t := record (.configured xcfgConst (answerOk a)) s
  if answerOk a then finish (.ok .unit) (freshHandle t)
  else issue .tRelease t

/-- `TRelease` of an `OPEN` whose configure failed has returned (R101). -/
def openReleased (s : State) : State :=
  raiseError (.transportError .configure) (dropHandle (record .released s))

/-- `CLOSE`: `TRelease(CH)` (R103). -/
def startClose (s : State) : State := issue .tRelease s

/-- `TRelease` of a `CLOSE` has returned; it cannot fail (R103).  No frame survives it either
(spec/60_exceptions.md R143). -/
def closeReleased (s : State) : State := finish (.ok .unit) (loseFrames (dropHandle (record .released s)))

/-- `SETDBG d`: no transport call (R104, spec/30_encoding.md R76). -/
def startSetdbg (d : Byte) (s : State) : State :=
  if 0x01#8 < d then refuseAdmitted .reservedOperand s
  else finish (.ok .unit) (setDebug (d.getLsbD 0) s)

end Sys2Proof.Machine
end

