-- ==== Sys2Proof/Machine/Init.lean ====
section
/-! DEFINITION. `INIT`, the bring-up sequencer: six stages, each entered by issuing its transport call or delay and left when
that returns and its checks pass (spec/41_device_controller.md R105 to R116). -/

namespace Sys2Proof.Machine

/-- Debug output of an identity value, when `DEBUG` is set (R116). -/
def logIfDebug (item : LogItem) (v : Byte) (s : State) : State := if s.debug then record (.logged item v) s else s

/-- Stage `S_POR`: the power-on-reset write (R106). -/
def enterPor (s : State) : State := issueXfer (writeFrame regPor porValue) s

/-- Stage `S_PID`: read the product ID (R107). -/
def enterPid (s : State) : State := issueXfer (readFrame regPid) (setSeq .pid s)

/-- Stage `S_IPID`: read the inverse product ID (R108). -/
def enterIpid (s : State) : State := issueXfer (readFrame regIpid) (setSeq .ipid s)

/-- Stage `S_B1`: configuration batch 1 (R109). -/
def enterB1 (s : State) : State := startBatchWrite batch1 (setSeq .b1 s)

/-- Stage `S_DELAY`: the settling delay (R110). -/
def enterDelay (s : State) : State := issue .delay (setSeq .delay s)

/-- Stage `S_B2`: configuration batch 2 (R111). -/
def enterB2 (s : State) : State := startBatchWrite batch2 (setSeq .b2 s)

/-- `INIT` when admitted (R105): refused outside phase `Uninitialized`, else the first stage. -/
def startInit (s : State) : State :=
  if s.phase = .uninitialized then enterPor s else refuseAdmitted .alreadyInitialized s

/-- The reset write has returned (R106). -/
def porReturned (r : Frame) (s : State) : State :=
  let t := receive (writeOk true) [r] s
  match validateWrite true [r] with
  | .error e => raiseAccess e t
  | .ok _ => enterPid t

/-- The product ID read has returned (R107). -/
def pidReturned (r : Frame) (s : State) : State :=
  let t := receive readOk [r] s
  match validateRead [r] with
  | .error e => raiseAccess e t
  | .ok vals =>
    let pid := vals.headD r.b1
    let u := logIfDebug .productId pid t
    if pid ≠ pidExpected then raiseAccess (.identityMismatch regPid pidExpected pid) u else enterIpid u

/-- The inverse product ID read has returned (R108). -/
def ipidReturned (r : Frame) (s : State) : State :=
  let t := receive readOk [r] s
  match validateRead [r] with
  | .error e => raiseAccess e t
  | .ok vals =>
    let ipid := vals.headD r.b1
    let u := logIfDebug .inverseProductId ipid t
    if ipid ≠ ipidExpected then raiseAccess (.identityMismatch regIpid ipidExpected ipid) u
    else enterB1 (setPhase .identified u)

/-- Batch 1 has returned (R109). -/
def b1Returned (ins : List Frame) (s : State) : State :=
  let t := receive (writeOk wbCheckByte1) ins s
  match validateWrite wbCheckByte1 ins with
  | .error e => raiseAccess e t
  | .ok _ => enterDelay t

/-- The settling delay has ended (R110, R112). -/
def delayReturned (s : State) : State := enterB2 (record (.delayed settleMs) s)

/-- Batch 2 has returned: the device is configured (R111). -/
def b2Returned (ins : List Frame) (s : State) : State :=
  let t := receive (writeOk wbCheckByte1) ins s
  match validateWrite wbCheckByte1 ins with
  | .error e => raiseAccess e t
  | .ok _ => returnValue .unit (setPhase .configured t)

end Sys2Proof.Machine
end

