-- ==== Sys2Proof/Machine/Register.lean ====
section
/-! DEFINITION. The register protocol commands `RDREG`, `WRREG`, `RDREGS`, `WRREGS` (spec/40_register_protocol.md R83 to R86):
what each does when it is admitted, and what it does with the frames its transport call returned. -/

namespace Sys2Proof.Machine

/-- `RDREG a` up to its `Xfer` (R83, R92). -/
def startRdreg (a : Byte) (s : State) : State :=
  if isIllegalAddr a then raiseAccess (.callerContractViolation 0 a) s else issueXfer (readFrame a) s

/-- `RDREG` after its `Xfer` (R83). -/
def rdregReturned (r : Frame) (s : State) : State :=
  let t := receive readOk [r] s
  match validateRead [r] with
  | .error e => raiseAccess e t
  | .ok vals => returnValue (.byte (vals.headD r.b1)) t

/-- `WRREG a, v` up to its `Xfer` (R84, R91). -/
def startWrreg (a v : Byte) (s : State) : State :=
  if isIllegalAddr a then raiseAccess (.callerContractViolation 0 a) s else issueXfer (writeFrame a v) s

/-- `WRREG` after its `Xfer`: the result is the operand `v` (R84, R95). -/
def wrregReturned (v : Byte) (r : Frame) (s : State) : State :=
  let t := receive (writeOk true) [r] s
  match validateWrite true [r] with
  | .error e => raiseAccess e t
  | .ok _ => returnValue (.byte v) t

/-- `RDREGS` up to its `XferBatch` (R85). -/
def startRdregs (addrs : List Byte) (s : State) : State := startBatchRead addrs s

/-- `RDREGS` after its `XferBatch` (R85, R89). -/
def rdregsReturned (ins : List Frame) (s : State) : State :=
  let t := receive readOk ins s
  match validateRead ins with
  | .error e => raiseAccess e t
  | .ok vals => returnValue (.bytes vals) t

/-- `WRREGS` up to its `XferBatch` (R86). -/
def startWrregs (pairs : List (Byte × Byte)) (s : State) : State := startBatchWrite pairs s

/-- `WRREGS` after its `XferBatch` (R86). -/
def wrregsReturned (ins : List Frame) (s : State) : State :=
  let t := receive (writeOk wbCheckByte1) ins s
  match validateWrite wbCheckByte1 ins with
  | .error e => raiseAccess e t
  | .ok _ => returnValue .unit t

end Sys2Proof.Machine
end

