-- ==== Sys2Proof/Machine/Sample.lean ====
section
/-! DEFINITION. `RDSAMPLE` (spec/41_device_controller.md R117) and the assembly of a sample from the five bytes it reads
(spec/30_encoding.md R68). -/

namespace Sys2Proof.Machine

/-- The sample of five bytes: position 0 is discarded, X is positions 2 and 1, Y is positions 4 and 3 (R68). -/
def sampleOf : List Byte → Option MotionSample
  | [_, xl, xh, yl, yh] => some ⟨coordinate xh xl, coordinate yh yl⟩
  | _ => none

/-- `RDSAMPLE` up to its `XferBatch` (R117). -/
def startRdsample (s : State) : State := issueBatch (readFrames motionRegs) s

/-- `RDSAMPLE` after its `XferBatch` (R117).  Five frames were sent, so five came back and `sampleOf` has a value; the last line
is the wait for a batch of another length, which no run reaches. -/
def rdsampleReturned (ins : List Frame) (s : State) : State :=
  let t := receive readOk ins s
  match validateRead ins with
  | .error e => raiseAccess e t
  | .ok vals =>
    match sampleOf vals with
    | some m => returnValue (.sample m) t
    | none => t

end Sys2Proof.Machine
end

