-- ==== Sys2Proof/Machine/Transport.lean ====
section
/-! DEFINITION. The transport call in progress returns: its event is appended (spec/10_state.md R37), the inbound frames or the
`TransportError` reach the command (spec/40_register_protocol.md R90), and the command goes on.  `run` lets the answers that are
there come back one after another until the command ends or waits. -/

namespace Sys2Proof.Machine

/-- `Xfer` has returned a frame: the stages of `INIT` that wait for one (R106 to R108). -/
def initXferReturned (r : Frame) (s : State) : State :=
  match s.seq with
  | .por => porReturned r s
  | .pid => pidReturned r s
  | .ipid => ipidReturned r s
  | _ => s

/-- `Xfer` has returned a frame: the command in progress goes on. -/
def xferDelivered (r : Frame) (s : State) : State :=
  match s.cmd with
  | some (.rdreg _) => rdregReturned r s
  | some (.wrreg _ v) => wrregReturned v r s
  | some .init => initXferReturned r s
  | _ => s

/-- `Xfer(OUTBUF[0])` has returned (R83, R90). -/
def xferReturned (a : Answer) (s : State) : State :=
  match s.outbuf with
  | [] => s
  | f :: _ =>
    let t := record (.xfer f (answerOne a)) s
    match answerOne a with
    | none => raiseAccess (.transportError .transfer) (receiveNothing t)
    | some r => xferDelivered r t

/-- `XferBatch` has returned frames: the stages of `INIT` that wait for them (R109, R111). -/
def initBatchReturned (ins : List Frame) (s : State) : State :=
  match s.seq with
  | .b1 => b1Returned ins s
  | .b2 => b2Returned ins s
  | _ => s

/-- `XferBatch` has returned frames: the command in progress goes on. -/
def batchDelivered (ins : List Frame) (s : State) : State :=
  match s.cmd with
  | some (.rdregs _) => rdregsReturned ins s
  | some (.wrregs _) => wrregsReturned ins s
  | some .rdsample => rdsampleReturned ins s
  | some .init => initBatchReturned ins s
  | _ => s

/-- `XferBatch(OUTBUF)` has returned (R85, R90). -/
def batchReturned (a : Answer) (s : State) : State :=
  let t := record (.xferBatch s.outbuf (answerMany s.outbuf.length a)) s
  match answerMany s.outbuf.length a with
  | none => raiseAccess (.transportError .transferBatch) (receiveNothing t)
  | some ins => batchDelivered ins t

/-- `TOpen` or `TConfigure` of an `OPEN` has returned (R101). -/
def handleCallReturned (returned : Byte → Byte → Answer → State → State) (a : Answer) (s : State) : State :=
  match s.cmd with
  | some (.openCh bus cs) => returned bus cs a s
  | _ => s

/-- `TRelease` has returned (R101, R103). -/
def releaseReturned (s : State) : State :=
  match s.cmd with
  | some (.openCh _ _) => openReleased s
  | some .closeCh => closeReleased s
  | _ => s

/-- The delay has ended; only `INIT` waits for one (R112). -/
def delayEnded (s : State) : State :=
  match s.cmd with
  | some .init => delayReturned s
  | _ => s

/-- The call `c` returns `a`: it is no longer in progress, and the command goes on until it ends or calls again. -/
def returned (c : Pending) (a : Answer) (s : State) : State :=
  let t := endCall s
  match c with
  | .tOpen => handleCallReturned openReturned a t
  | .tConfigure => handleCallReturned (fun _ _ => configureReturned) a t
  | .tRelease => releaseReturned t
  | .xfer => xferReturned a t
  | .xferBatch => batchReturned a t
  | .delay => delayEnded t

/-- While a call is in progress and the next thing at the transport side is its return, it returns. -/
def drain : List Reply → State → State
  | [], s => setReplies [] s
  | r :: rest, s =>
    match s.call, r with
    | some c, .answer a => drain rest (returned c a s)
    | _, _ => setReplies (r :: rest) s

/-- The command in progress goes on as far as the transport's answers take it. -/
def run (s : State) : State := drain s.replies s

end Sys2Proof.Machine
end

