-- ==== Sys2Proof/Machine/Commands.lean ====
section
/-! DEFINITION. The meaning of every instruction.  A command is admitted or refused, and runs to its end or to a transport call
that has not returned (spec/40_register_protocol.md R80, spec/00_scope.md R13); a wire frame is exchanged inside the command in
progress (spec/30_encoding.md R62, R63). -/

namespace Sys2Proof.Machine

/-- A command is presented: refused, or begun, started and run (R80). -/
def command (c : Instr) (start : State → State) (s : State) : Host.Outcome State Fault Refusal :=
  match admission c s with
  | some r => .next (refuse r s)
  | none => .next (run (start (begin c s)))

/-- A request frame is exchanged as the single transfer of the command in progress: `OUTBUF` holds it, `Xfer` is called if it is
not yet, and the command goes on when it returns (R49, R61). -/
def wireFrame (f : Frame) (s : State) : Host.Outcome State Fault Refusal :=
  if isBusy s ∧ (s.call = none ∨ s.call = some .xfer) then .next (run (issueXfer f s))
  else .refused .frameOutsideTransfer

/-- `OPEN bus, cs` (R101). -/
def execOpenCh (bus cs : Byte) (s : State) : Host.Outcome State Fault Refusal :=
  command (.openCh bus cs) startOpen s

/-- `CLOSE` (R103). -/
def execCloseCh (s : State) : Host.Outcome State Fault Refusal := command .closeCh startClose s

/-- `SETDBG d` (R104). -/
def execSetdbg (d : Byte) (s : State) : Host.Outcome State Fault Refusal := command (.setdbg d) (startSetdbg d) s

/-- `RDREG a` (R83). -/
def execRdreg (a : Byte) (s : State) : Host.Outcome State Fault Refusal := command (.rdreg a) (startRdreg a) s

/-- `WRREG a, v` (R84). -/
def execWrreg (a v : Byte) (s : State) : Host.Outcome State Fault Refusal := command (.wrreg a v) (startWrreg a v) s

/-- `RDREGS` (R85). -/
def execRdregs (addrs : List Byte) (s : State) : Host.Outcome State Fault Refusal :=
  command (.rdregs addrs) (startRdregs addrs) s

/-- `WRREGS` (R86). -/
def execWrregs (pairs : List (Byte × Byte)) (s : State) : Host.Outcome State Fault Refusal :=
  command (.wrregs pairs) (startWrregs pairs) s

/-- `INIT` (R105). -/
def execInit (s : State) : Host.Outcome State Fault Refusal := command .init startInit s

/-- `RDSAMPLE` (R117). -/
def execRdsample (s : State) : Host.Outcome State Fault Refusal := command .rdsample startRdsample s

/-- `RDF`: the read request frame (R62). -/
def execRdf (addr : Addr7) (s : State) : Host.Outcome State Fault Refusal := wireFrame (readFrame (addr.setWidth 8)) s

/-- `WRF`: the write request frame (R63). -/
def execWrf (addr : Addr7) (val : Byte) (s : State) : Host.Outcome State Fault Refusal :=
  wireFrame (writeFrame (addr.setWidth 8) val) s

end Sys2Proof.Machine
end

