-- ==== Sys2Proof/Machine/Dispatch.lean ====
section
/-! DEFINITION. One arm per instruction: its meaning. -/

namespace Sys2Proof.Machine

def exec (i : Instr) (s : State) : Host.Outcome State Fault Refusal :=
  match i with
  | .openCh bus cs => Sys2Proof.Machine.execOpenCh bus cs s
  | .closeCh => Sys2Proof.Machine.execCloseCh s
  | .setdbg d => Sys2Proof.Machine.execSetdbg d s
  | .rdreg a => Sys2Proof.Machine.execRdreg a s
  | .wrreg a v => Sys2Proof.Machine.execWrreg a v s
  | .rdregs addrs => Sys2Proof.Machine.execRdregs addrs s
  | .wrregs pairs => Sys2Proof.Machine.execWrregs pairs s
  | .init => Sys2Proof.Machine.execInit s
  | .rdsample => Sys2Proof.Machine.execRdsample s
  | .rdf addr => Sys2Proof.Machine.execRdf addr s
  | .wrf addr val => Sys2Proof.Machine.execWrf addr val s

end Sys2Proof.Machine
end

