-- ==== Sys2Proof/Machine/Fetch.lean ====
section
/-! DEFINITION. Where instructions come from.  The block fetches nothing from a memory (spec/20_memory.md R42): a command is a
byte string the caller presents (spec/30_encoding.md R61, R71), and a request frame is the content of `OUTBUF` while the command
in progress is at a single transfer (spec/10_state.md R21). -/

namespace Sys2Proof.Machine

/-- The refusal of a byte string that is no command (R71, R72). -/
def rejection : DecodeError → RefuseReason
  | .reservedOpcode => .reservedOpcode
  | .truncated => .truncated
  | .undefinedFrame => .reservedOpcode

/-- What is presented after a command has been read off a byte string: the bytes after it, if any, come next. -/
def afterCommand (rest : List Byte) (later : List (List Byte)) : List (List Byte) :=
  if rest.isEmpty then later else rest :: later

/-- The caller presents its next byte string: it is refused, or decoded and executed.  A caller that presents nothing changes
nothing (R131). -/
def callerTurn (s : State) : Host.Outcome State Fault Refusal :=
  match s.presented with
  | [] => .next s
  | bytes :: later =>
    match decodeCmd bytes with
    | .error e => .next (refuse (rejection e) { s with presented := later })
    | .ok (i, rest) => exec i { s with presented := afterCommand rest later }

/-- The request frame in `OUTBUF` is decoded and executed. -/
def wireTurn (s : State) : Host.Outcome State Fault Refusal :=
  match s.outbuf with
  | [f] =>
    match decodeFrame f with
    | .ok i => exec i s
    | .error _ => .fault .undefinedFrame
  | _ => .fault .undefinedFrame

/-- A step while the call `c` is in progress: it returns; or it is not back yet and the caller has a turn; or it never returns,
and then only the caller moves (R14, R154, R155). -/
def waitTurn (c : Pending) (s : State) : Host.Outcome State Fault Refusal :=
  match s.replies with
  | .answer _ :: _ => if c = .xfer then wireTurn s else .next (run s)
  | .pending :: rest => callerTurn { s with replies := rest }
  | [] =>
    match s.presented with
    | [] => .fault .blocked
    | _ :: _ => callerTurn s

/-- One step: an idle RAC takes the caller's next command, a busy one goes on with its command. -/
def stepOnce (s : State) : Host.Outcome State Fault Refusal :=
  match s.cmd, s.call with
  | none, _ => callerTurn s
  | some _, none => wireTurn s
  | some _, some c => waitTurn c s

/-- The bytes of the command at the head of a byte string; all of them where there is none. -/
def commandBytes (bytes : List Byte) : List Byte :=
  match decodeCmd bytes with
  | .ok (_, rest) => bytes.take (bytes.length - rest.length)
  | .error _ => bytes

/-- The single-register command that sends a request frame (R83, R84). -/
def ownerOf (f : Frame) : Instr :=
  if isIllegalAddr f.b0 then .wrreg ((f.b0.setWidth 7).setWidth 8) f.b1 else .rdreg f.b0

/-- The caller presents a table word's command next.  Where a command is in progress, its call is not back yet. -/
def presentWord (nbits w : Nat) (s : State) : State :=
  { s with presented := commandBytes (tableCmdBytes nbits w) :: s.presented,
           replies := if isBusy s then .pending :: s.replies else s.replies }

/-- A table word's frame stands in `OUTBUF`, in the single-register command that sends it, at the point where `Xfer` is to be
called (R83, R84, between `OUTBUF <- ...` and `Xfer`). -/
def loadFrame (w : Nat) (s : State) : State :=
  { s with cmd := some (ownerOf (tableFrame w)), seq := .run, outbuf := [tableFrame w], call := none }

end Sys2Proof.Machine
end

