-- ==== Sys2Proof/Machine/Step.lean ====
section
/-! DEFINITION. The step, and how a word of the opcode table is put where the step takes its next instruction from. -/

namespace Sys2Proof.Machine

/-- One step of the machine. -/
def step (s : State) : Host.Outcome State Fault Refusal := stepOnce s

/-- `s` with a word of spec/opcode_table.json as the next instruction: a CMD row's bytes are presented by the caller, a FRAME16
row's frame stands in `OUTBUF` of a single-register command. -/
def State.withFetchWord (s : State) (nbits w : Nat) : State :=
  if nbits = 16 then loadFrame w s else presentWord nbits w s

end Sys2Proof.Machine
end

