-- ==== Sys2Proof/WellFormed.lean ====
section
/-! DEFINITION. Which instruction terms have an encoding: a batch carries at most `MAX_BATCH` operands
(spec/30_encoding.md R70, spec/40_register_protocol.md R97).  Nothing else is checked here: an address operand with bit 7 set
and a SETDBG operand above 1 are encodable, and the command itself answers for them (R73, R76). -/

namespace Sys2Proof

/-- The check, as a Bool. -/
def Instr.wellFormed : Instr → Bool
  | .openCh _ _ => true
  | .closeCh => true
  | .setdbg _ => true
  | .rdreg _ => true
  | .wrreg _ _ => true
  | .rdregs addrs => decide (addrs.length ≤ Machine.maxBatch)
  | .wrregs pairs => decide (pairs.length ≤ Machine.maxBatch)
  | .init => true
  | .rdsample => true
  | .rdf _ => true
  | .wrf _ _ => true

/-- An instruction that has an encoding. -/
abbrev Instr.WellFormed (i : Instr) : Prop := i.wellFormed = true

end Sys2Proof
end

