-- ==== Sys2Proof/Machine/Asm.lean ====
section
/-! DEFINITION. The assembler of spec/30_encoding.md R77: one command a line, `;` starts a comment, numbers are hexadecimal with
`0x` or decimal, mnemonics are case-insensitive; the list forms assemble to the `n`-prefixed encodings.  It is notation for
programs (spec/92_eei_decisions.md D2): no other definition of the machine uses it. -/

namespace Sys2Proof.Machine

/-- What a line is made of. -/
inductive Token where
  | atom (chars : List Char)
  | comma
  | openBracket
  | closeBracket
  | openParen
  | closeParen
deriving DecidableEq, Repr

/-- A character that stands for a token of its own. -/
def punctuation (c : Char) : Option Token :=
  if c = ',' then some .comma
  else if c = '[' then some .openBracket
  else if c = ']' then some .closeBracket
  else if c = '(' then some .openParen
  else if c = ')' then some .closeParen
  else none

/-- The atom collected so far, reversed, if there is one. -/
def flush (atom : List Char) : List Token := if atom.isEmpty then [] else [.atom atom.reverse]

/-- The tokens of a line: blanks separate, a comment ends it (R77). -/
def tokens (atom : List Char) : List Char → List Token
  | [] => flush atom
  | c :: rest =>
    if c = ';' then flush atom
    else if c = ' ' ∨ c = '\t' ∨ c = '\r' then flush atom ++ tokens [] rest
    else
      match punctuation c with
      | some t => flush atom ++ t :: tokens [] rest
      | none => tokens (c :: atom) rest

/-- A character in lower case: mnemonics are case-insensitive (R77). -/
def lower (c : Char) : Char := if 'A' ≤ c ∧ c ≤ 'Z' then Char.ofNat (c.toNat + 32) else c

/-- The value of a digit of a base up to 16. -/
def digit (base : Nat) (c : Char) : Option Nat :=
  let v :=
    if '0' ≤ c ∧ c ≤ '9' then c.toNat - '0'.toNat
    else if 'a' ≤ c ∧ c ≤ 'f' then c.toNat - 'a'.toNat + 10
    else if 'A' ≤ c ∧ c ≤ 'F' then c.toNat - 'A'.toNat + 10
    else 16
  if v < base then some v else none

/-- The number digits stand for, most significant first. -/
def digits (base : Nat) (acc : Nat) : List Char → Option Nat
  | [] => some acc
  | c :: rest =>
    match digit base c with
    | some v => digits base (acc * base + v) rest
    | none => none

/-- A number: hexadecimal with `0x`, else decimal (R77). -/
def number : List Char → Option Nat
  | [] => none
  | ['0', 'x'] => none
  | '0' :: 'x' :: rest => digits 16 0 rest
  | cs => digits 10 0 cs

/-- An operand: one byte (R69). -/
def operand (cs : List Char) : Option Byte :=
  match number cs with
  | some v => if v < 256 then some (BitVec.ofNat 8 v) else none
  | none => none

/-- Addresses after the first, up to the closing bracket. -/
def moreAddrs : List Token → Option (List Byte)
  | [.closeBracket] => some []
  | .comma :: .atom cs :: rest =>
    match operand cs, moreAddrs rest with
    | some a, some addrs => some (a :: addrs)
    | _, _ => none
  | _ => none

/-- The list operand of `rdregs`. -/
def addrList : List Token → Option (List Byte)
  | [.openBracket, .closeBracket] => some []
  | .openBracket :: rest => moreAddrs (.comma :: rest)
  | _ => none

/-- Pairs after the first, up to the closing bracket. -/
def morePairs : List Token → Option (List (Byte × Byte))
  | [.closeBracket] => some []
  | .comma :: .openParen :: .atom a :: .comma :: .atom v :: .closeParen :: rest =>
    match operand a, operand v, morePairs rest with
    | some a, some v, some pairs => some ((a, v) :: pairs)
    | _, _, _ => none
  | _ => none

/-- The list operand of `wrregs`. -/
def pairList : List Token → Option (List (Byte × Byte))
  | [.openBracket, .closeBracket] => some []
  | .openBracket :: rest => morePairs (.comma :: rest)
  | _ => none

/-- One operand. -/
def oneOperand (f : Byte → Instr) : List Token → Option Instr
  | [.atom a] =>
    match operand a with
    | some a => some (f a)
    | none => none
  | _ => none

/-- Two operands. -/
def twoOperands (f : Byte → Byte → Instr) : List Token → Option Instr
  | [.atom a, .comma, .atom b] =>
    match operand a, operand b with
    | some a, some b => some (f a b)
    | _, _ => none
  | _ => none

/-- No operand. -/
def noOperand (i : Instr) : List Token → Option Instr
  | [] => some i
  | _ => none

/-- The command of a mnemonic in lower case and its operand tokens (R77). -/
def parseCommand (mnemonic : List Char) (args : List Token) : Option Instr :=
  if mnemonic = ['o', 'p', 'e', 'n'] then twoOperands .openCh args
  else if mnemonic = ['c', 'l', 'o', 's', 'e'] then noOperand .closeCh args
  else if mnemonic = ['s', 'e', 't', 'd', 'b', 'g'] then oneOperand .setdbg args
  else if mnemonic = ['r', 'd', 'r', 'e', 'g'] then oneOperand .rdreg args
  else if mnemonic = ['w', 'r', 'r', 'e', 'g'] then twoOperands .wrreg args
  else if mnemonic = ['r', 'd', 'r', 'e', 'g', 's'] then (addrList args).map .rdregs
  else if mnemonic = ['w', 'r', 'r', 'e', 'g', 's'] then (pairList args).map .wrregs
  else if mnemonic = ['i', 'n', 'i', 't'] then noOperand .init args
  else if mnemonic = ['r', 'd', 's', 'a', 'm', 'p', 'l', 'e'] then noOperand .rdsample args
  else none

/-- What one line assembles to: nothing for a blank or comment line, else one command's bytes; a line that is no command, or whose
list has no encoding (R97), is rejected. -/
def assembleLine (line : List Char) : Option (List (List Byte)) :=
  match tokens [] line with
  | [] => some []
  | .atom m :: args =>
    match parseCommand (m.map lower) args with
    | some i => if i.wellFormed then some [encode i] else none
    | none => none
  | _ => none

/-- A program's lines, in order. -/
def splitLines (line : List Char) : List Char → List (List Char)
  | [] => [line.reverse]
  | c :: rest => if c = '\n' then line.reverse :: splitLines [] rest else splitLines (c :: line) rest

/-- The byte strings of lines, in order, for the caller to present. -/
def assembleLines : List (List Char) → Option (List (List Byte))
  | [] => some []
  | line :: rest =>
    match assembleLine line, assembleLines rest with
    | some one, some more => some (one ++ more)
    | _, _ => none

/-- The byte strings of a program text. -/
def assemble (text : List Char) : Option (List (List Byte)) := assembleLines (splitLines [] text)

end Sys2Proof.Machine
end

