-- ==== Sys2Proof/Machine/Sim.lean ====
section
/-! DEFINITION. The reference simulated device `SIM` (spec/92_eei_decisions.md D24): a register bank that answers read frames
with its byte and write frames with two handshake bytes, and never fails.  It is a fixture, not part of the hardware (R39): no
other definition of the machine uses it. -/

namespace Sys2Proof.Machine

/-- The bank: one byte for each 7-bit address (R36, D24). -/
abbrev Bank := Vector Byte 128

/-- The bank's byte at an address. -/
def Bank.read (bank : Bank) (a : Addr7) : Byte := bank[a.toNat]'a.isLt

/-- The bank with a byte stored at an address. -/
def Bank.write (bank : Bank) (a : Addr7) (v : Byte) : Bank := bank.set a.toNat v a.isLt

/-- One frame is answered (D24). -/
def simFrame (bank : Bank) (f : Frame) : Frame × Bank :=
  if isIllegalAddr f.b0 then (⟨handshake, handshake⟩, bank.write (f.b0.setWidth 7) f.b1)
  else (⟨handshake, bank.read (f.b0.setWidth 7)⟩, bank)

/-- The frames of a transport call are answered in order (D24). -/
def simFrames (bank : Bank) : List Frame → List Frame × Bank
  | [] => ([], bank)
  | f :: rest =>
    let one := simFrame bank f
    let more := simFrames one.2 rest
    (one.1 :: more.1, more.2)

/-- The transport's answer to a call with these frames. -/
def simAnswer (bank : Bank) (outs : List Frame) : Reply := .answer (.ok (simFrames bank outs).1)

end Sys2Proof.Machine
end

