-- ==== Sys2Proof/Safety.lean ====
section
/-! DEFINITION. The terms claims are stated in: when a command is admitted, how it ends and what it leaves unchanged, what the
history says of the frames sent, and the invariant of the machine. -/

namespace Sys2Proof.Machine

/-- The state a step or an instruction answers, if it answers one. -/
def nextOf (o : Host.Outcome State Fault Refusal) : Option State :=
  match o with
  | .next t => some t
  | .fault _ => none
  | .refused _ => none

/-- A run that broke no caller duty: the premise of the spec's own claims (spec/00_scope.md R15). -/
abbrev NothingRefused (s : State) : Prop := s.refused = false

/-- An open, usable handle with no command in progress: every command but `OPEN` is admitted (R80). -/
structure Ready (s : State) : Prop where
  isOpen : s.isOpen = true
  usable : s.unusable = false
  noCommand : s.cmd = none

/-- No handle and no command in progress: `OPEN` is admitted (R80). -/
structure NoHandle (s : State) : Prop where
  closed : s.isOpen = false
  usable : s.unusable = false
  noCommand : s.cmd = none

/-- No command is in progress (R23, R32). -/
structure Idle (s : State) : Prop where
  noCommand : s.cmd = none
  noStage : s.seq = .idle
  noCall : s.call = none

/-- What only a refusal and the caller write: `REFUSED`, its reason, the byte strings still presented. -/
structure SameCaller (s t : State) : Prop where
  presented : t.presented = s.presented
  refused : t.refused = s.refused
  reason : t.reason = s.reason

/-- The command between `s` and `t` has ended with outcome `r`, having appended `events` and used the transport's answers but
for `rest`. -/
structure Ends (s t : State) (r : Result) (events : List Event) (rest : List Reply) : Prop where
  idle : Idle t
  res : t.res = some r
  hist : t.hist = s.hist ++ events
  replies : t.replies = rest
  caller : SameCaller s t

/-- `CH`, `OPEN` and `XCFG` are unchanged. -/
structure SameChannel (s t : State) : Prop where
  isOpen : t.isOpen = s.isOpen
  ch : t.ch = s.ch
  xcfg : t.xcfg = s.xcfg

/-- The whole handle is unchanged: channel, `PHASE`, `UNUSABLE`, `DEBUG`. -/
structure SameHandle (s t : State) : Prop where
  channel : SameChannel s t
  phase : t.phase = s.phase
  unusable : t.unusable = s.unusable
  debug : t.debug = s.debug

/-- `INIT` has ended with error `e`: the handle is unusable and `PHASE` is what it had reached (R113). -/
structure Aborts (s t : State) (e : ErrorRec) (events : List Event) (rest : List Reply) (phase : Phase) : Prop where
  ends : Ends s t (.err e) events rest
  channel : SameChannel s t
  debug : t.debug = s.debug
  unusable : t.unusable = true
  phase : t.phase = phase

/-- `INIT` has gone on from `s` to stage `seq`, whose call is in progress with the frames `out`, having appended `events`; the
transport's answers left are `rest`, and the handle, `RES` and what the caller sees are unchanged but for `PHASE` (R105). -/
structure GoesOn (s u : State) (seq : Seq) (call : Pending) (out : List Frame) (events : List Event) (rest : List Reply)
    (phase : Phase) : Prop where
  cmd : u.cmd = some .init
  seq : u.seq = seq
  call : u.call = some call
  outbuf : u.outbuf = out
  hist : u.hist = s.hist ++ events
  replies : u.replies = rest
  phase : u.phase = phase
  unusable : u.unusable = s.unusable
  debug : u.debug = s.debug
  res : u.res = s.res
  channel : SameChannel s u
  caller : SameCaller s u

/-- `OUTBUF` and `INBUF` are unchanged. -/
structure SameFrameBuffers (s t : State) : Prop where
  outbuf : t.outbuf = s.outbuf
  inbuf : t.inbuf = s.inbuf

/-- No call returns: the next thing at the transport side is not an answer (R14). -/
def Unanswered (s : State) : Prop := s.replies = [] ∨ ∃ rest, s.replies = .pending :: rest

/-- The caller's turn, after which `left` is what the transport side does next: the RAC is idle; or it is in a call that never
returns; or in one that is not back yet, and that `pending` is used up. -/
def CallersTurn (s : State) (left : List Reply) : Prop :=
  (s.cmd = none ∧ left = s.replies) ∨
    ((∃ c, s.cmd = some c) ∧ (∃ c, s.call = some c) ∧ ((s.replies = [] ∧ left = []) ∨ s.replies = .pending :: left))

/-- Everything the spec gives the machine is unchanged but `REFUSED`, which is set: what a refusal is (R15, R137). -/
structure OnlyRefused (r : RefuseReason) (s t : State) : Prop where
  refused : t.refused = true
  reason : t.reason = some r
  handle : SameHandle s t
  buffers : SameFrameBuffers s t
  cmd : t.cmd = s.cmd
  seq : t.seq = s.seq
  k : t.k = s.k
  res : t.res = s.res
  hist : t.hist = s.hist
  call : t.call = s.call
  replies : t.replies = s.replies

/-- The request frames an event put on the wire. -/
def Event.frames : Event → List Frame
  | .opened _ _ _ => []
  | .configured _ _ => []
  | .xfer out _ => [out]
  | .xferBatch outs _ => outs
  | .delayed _ => []
  | .released => []
  | .logged _ _ => []

/-- The request frames of a history, in the order the device saw them (R37, R54). -/
def framesSent (h : List Event) : List Frame := h.flatMap Event.frames

/-- Whether an event is a transport call (R11, R160). -/
def Event.isCall : Event → Bool
  | .opened _ _ _ => true
  | .configured _ _ => true
  | .xfer _ _ => true
  | .xferBatch _ _ => true
  | .delayed _ => false
  | .released => true
  | .logged _ _ => false

/-- Whether an event is a delay (R160). -/
def Event.isDelay : Event → Bool
  | .delayed _ => true
  | _ => false

/-- Whether an event is debug output (R116). -/
def Event.isLog : Event → Bool
  | .logged _ _ => true
  | _ => false

/-- Transport calls, frames and delays of a list of events (R160). -/
def cost (h : List Event) : Nat × Nat × Nat :=
  (h.countP Event.isCall, (framesSent h).length, h.countP Event.isDelay)

/-- What a command costs when it ends without error (R160). -/
def costOf : Instr → Nat × Nat × Nat
  | .openCh _ _ => (2, 0, 0)
  | .closeCh => (1, 0, 0)
  | .setdbg _ => (0, 0, 0)
  | .rdreg _ => (1, 1, 0)
  | .wrreg _ _ => (1, 1, 0)
  | .rdregs addrs => (1, addrs.length, 0)
  | .wrregs pairs => (1, pairs.length, 0)
  | .init => (5, 72, 1)
  | .rdsample => (1, 5, 0)
  | .rdf _ => (1, 1, 0)
  | .wrf _ _ => (1, 1, 0)

/-- A state without what `DEBUG` is allowed to change: the flag itself and the debug output (R29). -/
def eraseDebug (s : State) : State := { s with debug := false, hist := s.hist.filter fun e => !e.isLog }

/-- Two outcomes that agree but for the flag `DEBUG` and the debug output. -/
def SameButDebug (o p : Host.Outcome State Fault Refusal) : Prop :=
  match o, p with
  | .next s, .next t => eraseDebug s = eraseDebug t
  | .fault f, .fault g => f = g
  | .refused f, .refused g => f = g
  | _, _ => False

/-- The commands in list order, each at the state the one before it left. -/
def execAll : List Instr → State → Host.Outcome State Fault Refusal
  | [], s => .next s
  | i :: rest, s =>
    match exec i s with
    | .next t => execAll rest t
    | .fault f => .fault f
    | .refused r => .refused r

/-- The outcomes `RES` holds after each of the commands in turn. -/
def resultsOf : List Instr → State → List (Option Result)
  | [], _ => []
  | i :: rest, s =>
    match exec i s with
    | .next t => t.res :: resultsOf rest t
    | .fault _ => []
    | .refused _ => []

/-- Which command can end with which kind of error (spec/60_exceptions.md R130).  The violation `INIT` can end with only if a
table breaks the premise of R7 is left out: the tables' type holds the premise. -/
def canEndWith : Instr → ErrorRec → Bool
  | .openCh _ _, .transportError _ => true
  | .rdreg _, .transportError _ => true
  | .rdreg _, .unexpectedHandshake _ _ _ => true
  | .rdreg _, .callerContractViolation _ _ => true
  | .wrreg _ _, .transportError _ => true
  | .wrreg _ _, .unexpectedHandshake _ _ _ => true
  | .wrreg _ _, .callerContractViolation _ _ => true
  | .rdregs _, .transportError _ => true
  | .rdregs _, .unexpectedHandshake _ _ _ => true
  | .rdregs _, .callerContractViolation _ _ => true
  | .wrregs _, .transportError _ => true
  | .wrregs _, .unexpectedHandshake _ _ _ => true
  | .wrregs _, .callerContractViolation _ _ => true
  | .init, .transportError _ => true
  | .init, .unexpectedHandshake _ _ _ => true
  | .init, .identityMismatch _ _ _ => true
  | .rdsample, .transportError _ => true
  | .rdsample, .unexpectedHandshake _ _ _ => true
  | _, _ => false

/-- Every address operand of a command is a register address (R48). -/
def contractOk : Instr → Prop
  | .rdreg a => isIllegalAddr a = false
  | .wrreg a _ => isIllegalAddr a = false
  | .rdregs addrs => ∀ a ∈ addrs, isIllegalAddr a = false
  | .wrregs pairs => ∀ p ∈ pairs, isIllegalAddr p.1 = false
  | _ => True

/-- The transport call or delay `INIT` waits for at a stage, and the frames in `OUTBUF` while it does (R106 to R111). -/
def initInFlight : Seq → Option (Pending × List Frame)
  | .por => some (.xfer, [writeFrame regPor porValue])
  | .pid => some (.xfer, [readFrame regPid])
  | .ipid => some (.xfer, [readFrame regIpid])
  | .b1 => some (.xferBatch, writeFrames batch1)
  | .delay => some (.delay, writeFrames batch1)
  | .b2 => some (.xferBatch, writeFrames batch2)
  | .idle => none
  | .run => none

/-- The transport call a command waits for at a stage, and the frames in `OUTBUF` while it does (R21, R23). -/
def inFlight (c : Instr) (q : Seq) : Option (Pending × List Frame) :=
  match c with
  | .rdreg a => if q = .run then some (.xfer, [readFrame a]) else none
  | .wrreg a v => if q = .run then some (.xfer, [writeFrame a v]) else none
  | .rdregs addrs => if q = .run then some (.xferBatch, readFrames addrs) else none
  | .wrregs pairs => if q = .run then some (.xferBatch, writeFrames pairs) else none
  | .rdsample => if q = .run then some (.xferBatch, readFrames motionRegs) else none
  | .init => initInFlight q
  | .openCh _ _ => none
  | .closeCh => none
  | .setdbg _ => none
  | .rdf _ => none
  | .wrf _ _ => none

/-- The phase `INIT` holds at each of its stages (R27, R120). -/
def initPhase : Seq → Phase
  | .por => .uninitialized
  | .pid => .uninitialized
  | .ipid => .uninitialized
  | _ => .identified

/-- What holds while command `c` is in progress: it waits in the transport call of its stage, with that call's frames. -/
def WaitsIn (c : Instr) (s : State) : Prop :=
  match c with
  | .openCh bus cs =>
    s.seq = .run ∧ s.isOpen = false ∧
      ((s.call = some .tOpen ∧ s.ch = none) ∨
        ((s.call = some .tConfigure ∨ s.call = some .tRelease) ∧ s.ch = some ⟨bus, cs⟩))
  | .closeCh => s.seq = .run ∧ s.isOpen = true ∧ s.call = some .tRelease
  | c =>
    s.isOpen = true ∧ s.unusable = false ∧ contractOk c ∧ (c = .init → s.phase = initPhase s.seq) ∧
      ∃ p, inFlight c s.seq = some p ∧ s.call = some p.1 ∧ s.outbuf = p.2

/-- The invariant of the machine. -/
structure Inv (s : State) : Prop where
  /-- no command: `SEQ` is `S_IDLE` and no call is in progress (R23, R32) -/
  idle : s.cmd = none → Idle s
  /-- a command in progress waits in its call (R13, R21, R23) -/
  busy : ∀ c, s.cmd = some c → WaitsIn c s
  /-- only encodable batches are in progress, so `OUTBUF` holds at most `MAX_BATCH` frames for them (R21, R97) -/
  encodable : ∀ c, s.cmd = some c → c.WellFormed
  /-- an open handle owns a channel and has the one transport configuration (R30, R31) -/
  opened : s.isOpen = true → s.ch.isSome = true ∧ s.xcfg = some xcfgConst
  /-- no handle carries no flags and no configuration (R40) -/
  closed : s.isOpen = false → s.xcfg = none ∧ s.unusable = false ∧ s.debug = false
  /-- no handle and no `OPEN` in progress: no channel (R40) -/
  channel : s.isOpen = false → s.cmd = none → s.ch = none
  /-- `Identified` is held between commands only by an unusable handle (R120) -/
  identified : s.isOpen = true → s.phase = .identified → s.cmd ≠ some .init → s.unusable = true
  /-- an unusable handle is not configured (R28, R113) -/
  unusable : s.unusable = true → s.phase ≠ .configured
  /-- `REFUSED` is set exactly when a refusal has happened (R33) -/
  marked : s.refused = s.reason.isSome

/-- What the history says of the settling delay while `INIT` is at its last two stages (R56, R110, R115): batch 1 is the last
thing sent, and at `S_B2` a delay of `SETTLE_MS` has ended after it. -/
def Settled (s : State) : Prop :=
  s.cmd = some .init →
    (s.seq = .delay → ∃ h ins, s.hist = h ++ [.xferBatch (writeFrames batch1) (some ins)]) ∧
    (s.seq = .b2 → ∃ h ins, s.hist = h ++ [.xferBatch (writeFrames batch1) (some ins), .delayed settleMs])

/-- Every frame of a history is one of the two request frames (R62, R63, R75). -/
def OnlyDefinedFrames (h : List Event) : Prop := ∀ f ∈ framesSent h, ∃ i, decodeFrame f = .ok i

end Sys2Proof.Machine
end

