-- ==== Sys2Proof/Certificates/Slice0/Obligations.lean ====
section
/-! DEFINITION. The statements about the register-access controller, each from the numbered rules of spec/ that its docstring
names.  Constants stand in them as the literals the rules give. -/

open Sys2Proof Sys2Proof.Machine

/-! ### Encoding -/

/-- Words written out from R62, R63 and R69 decode to the instructions they stand for (the table of
spec/95_test_vectors.md 2.1, 2.2). -/
def Obligations.CommandAndFrameWordsDecode : Prop :=
  decodeCmd [0x01#8, 0x02#8, 0x00#8] = .ok (.openCh 2 0, []) ∧
  decodeCmd [0x03#8, 0x01#8] = .ok (.setdbg 1, []) ∧
  decodeCmd [0x11#8, 0x3A#8, 0x5A#8] = .ok (.wrreg 0x3A 0x5A, []) ∧
  decodeCmd [0x12#8, 0x02#8, 0x05#8, 0x83#8] = .ok (.rdregs [0x05, 0x83], []) ∧
  decodeCmd [0x13#8, 0x02#8, 0x7F#8, 0x00#8, 0x61#8, 0xAD#8] = .ok (.wrregs [(0x7F, 0x00), (0x61, 0xAD)], []) ∧
  decodeFrame ⟨0x5F#8, 0x00#8⟩ = .ok (.rdf 0x5F) ∧
  decodeFrame ⟨0xE1#8, 0xAD#8⟩ = .ok (.wrf 0x61 0xAD)

/-- Decoding the encoding of any well-formed instruction gives it back with every operand, whatever bytes follow (R61 to R63,
R69 to R71). -/
def Obligations.DecodeOfEncodeIsTheInstruction : Prop :=
  ∀ (i : Instr) (rest : List Byte), i.WellFormed → decode i.format (encode i ++ rest) = .ok (i, rest)

/-- What the decoders accept is the encoding of a well-formed instruction of their format: no byte is dropped, no second
encoding exists. -/
def Obligations.DecodedBytesAreTheEncoding : Prop :=
  (∀ (bytes rest : List Byte) (i : Instr), decodeCmd bytes = .ok (i, rest) →
    i.WellFormed ∧ i.format = .cmd ∧ bytes = encode i ++ rest) ∧
  (∀ (f : Frame) (i : Instr), decodeFrame f = .ok i → i.format = .frame16 ∧ encode i = [f.b0, f.b1])

/-- R62 and R63: a frame, as the 16-bit number with byte 0 in bits 15..8, is `RDF` where it matches `0x0000` under mask `0x80FF`
and `WRF` where it matches `0x8000` under mask `0x8000`, each with its fields; any other frame is no request frame. -/
def Obligations.RequestFramePatterns : Prop :=
  ∀ f : Frame,
    ((f.b0 ++ f.b1 : BitVec 16) &&& 0x80FF#16 = 0x0000#16 →
      decodeFrame f = .ok (.rdf (BitVec.extractLsb' 8 7 (f.b0 ++ f.b1)))) ∧
    ((f.b0 ++ f.b1 : BitVec 16) &&& 0x8000#16 = 0x8000#16 →
      decodeFrame f = .ok (.wrf (BitVec.extractLsb' 8 7 (f.b0 ++ f.b1)) (BitVec.extractLsb' 0 8 (f.b0 ++ f.b1)))) ∧
    ((f.b0 ++ f.b1 : BitVec 16) &&& 0x80FF#16 ≠ 0x0000#16 → (f.b0 ++ f.b1 : BitVec 16) &&& 0x8000#16 ≠ 0x8000#16 →
      decodeFrame f = .error .undefinedFrame)

/-- R66: request byte 0 is the 7-bit address with bit 7 clear for a read and set for a write; request byte 1 is `0x00` or the
value. -/
def Obligations.RequestByteAssembly : Prop :=
  ∀ (addr : Addr7) (v : Byte),
    readFrame (addr.setWidth 8) = ⟨0#1 ++ addr, 0x00#8⟩ ∧ writeFrame (addr.setWidth 8) v = ⟨1#1 ++ addr, v⟩

/-- R72: a byte string whose opcode is not in R69's table is refused, with `RES` and all else but `REFUSED` unchanged.  The model's
choices in it: the refused string is dropped whole (assumption 11), and a command in progress is left alone and not looked at first
(assumptions 10 and 12). -/
def Obligations.ReservedOpcodesAreRefused : Prop :=
  ∀ (op : Byte) (rest : List Byte),
    op ∉ [0x01#8, 0x02#8, 0x03#8, 0x10#8, 0x11#8, 0x12#8, 0x13#8, 0x20#8, 0x21#8] →
    decodeCmd (op :: rest) = .error .reservedOpcode ∧
    ∀ (s : State) (left : List Reply) (later : List (List Byte)), CallersTurn s left → s.presented = (op :: rest) :: later →
      ∃ t, step s = .next t ∧ OnlyRefused .reservedOpcode { s with replies := left } t ∧ t.presented = later

/-- R71: a byte string shorter than the decoded length of its command, the empty string included, is refused.  The model's choices in
it: the refused string is dropped whole (assumption 11), and a command in progress is left alone and not looked at first
(assumptions 10 and 12). -/
def Obligations.TruncatedCommandsAreRefused : Prop :=
  ∀ (i : Instr) (bytes missing : List Byte), i.WellFormed → i.format = .cmd → encode i = bytes ++ missing → missing ≠ [] →
    decodeCmd bytes = .error .truncated ∧
    ∀ (s : State) (left : List Reply) (later : List (List Byte)), CallersTurn s left → s.presented = bytes :: later →
      ∃ t, step s = .next t ∧ OnlyRefused .truncated { s with replies := left } t ∧ t.presented = later

/-- R77, R69: each mnemonic, in any case, with its operands assembles to the encoding of its command; numbers are decimal, or
hexadecimal with `0x`; `;` starts a comment; commands stand one a line.  Whatever a line assembles to is one whole well-formed
command, which the decoder reads back.  (An operand of `setdbg` above 1 is the model's reading: assumption 19.) -/
def Obligations.AssembledLinesAreCommands : Prop :=
  (∀ (line : List Char) (bytes : List Byte), assembleLine line = some [bytes] →
    ∃ i : Instr, i.WellFormed ∧ i.format = .cmd ∧ bytes = encode i ∧ decodeCmd bytes = .ok (i, [])) ∧
  (∀ n < 256, operand (Nat.toDigits 10 n) = some (BitVec.ofNat 8 n) ∧
    operand ('0' :: 'x' :: Nat.toDigits 16 n) = some (BitVec.ofNat 8 n)) ∧
  (∀ line comment : List Char, assembleLine (line ++ ';' :: comment) = assembleLine line) ∧
  (∀ line text : List Char, '\n' ∉ line →
    assemble (line ++ '\n' :: text) = (assembleLine line).bind fun one => (assemble text).map fun more => one ++ more) ∧
  (∀ m : List Char,
    (m.map lower = "close".toList → assembleLine m = some [[0x02#8]]) ∧
    (m.map lower = "init".toList → assembleLine m = some [[0x20#8]]) ∧
    (m.map lower = "rdsample".toList → assembleLine m = some [[0x21#8]])) ∧
  (∀ (m a : List Char) (x : Byte), operand a = some x →
    (m.map lower = "setdbg".toList → assembleLine (m ++ ' ' :: a) = some [[0x03#8, x]]) ∧
    (m.map lower = "rdreg".toList → assembleLine (m ++ ' ' :: a) = some [[0x10#8, x]])) ∧
  (∀ (m a b : List Char) (x y : Byte), operand a = some x → operand b = some y →
    (m.map lower = "open".toList → assembleLine (m ++ ' ' :: (a ++ ',' :: ' ' :: b)) = some [[0x01#8, x, y]]) ∧
    (m.map lower = "wrreg".toList → assembleLine (m ++ ' ' :: (a ++ ',' :: ' ' :: b)) = some [[0x11#8, x, y]])) ∧
  (∀ (m : List Char) (texts : List (List Char)) (addrs : List Byte), m.map lower = "rdregs".toList →
    texts.map operand = addrs.map some → addrs.length ≤ 255 →
    assembleLine (m ++ ' ' :: '[' :: (List.intercalate [',', ' '] texts ++ [']'])) =
      some [0x12#8 :: BitVec.ofNat 8 addrs.length :: addrs]) ∧
  (∀ (m : List Char) (texts : List (List Char × List Char)) (pairs : List (Byte × Byte)), m.map lower = "wrregs".toList →
    (texts.map fun t => (operand t.1, operand t.2)) = (pairs.map fun p => (some p.1, some p.2)) → pairs.length ≤ 255 →
    assembleLine (m ++ ' ' :: '[' ::
        (List.intercalate [',', ' '] (texts.map fun t => '(' :: (t.1 ++ ',' :: ' ' :: t.2 ++ [')'])) ++ [']'])) =
      some [0x13#8 :: BitVec.ofNat 8 pairs.length :: pairs.flatMap fun p => [p.1, p.2]])

/-! ### The step -/

/-- On the caller's turn the step is `exec` of the command the presented bytes decode to: when the RAC is idle, when its call is
not back yet, and when its call never returns.  The model's choices in it: what is presented and what the transport does are lists
(assumption 9: that `pending` is used up), and bytes after the command are presented next (assumption 11). -/
def Obligations.StepRunsTheDecodedCommand : Prop :=
  ∀ (s : State) (bytes rest : List Byte) (later : List (List Byte)) (i : Instr),
    s.presented = bytes :: later → decodeCmd bytes = .ok (i, rest) →
    (s.cmd = none →
      step s = exec i { s with presented := if rest = [] then later else rest :: later }) ∧
    (∀ c call waiting, s.cmd = some c → s.call = some call → s.replies = .pending :: waiting →
      step s = exec i { s with presented := if rest = [] then later else rest :: later, replies := waiting }) ∧
    (∀ c call, s.cmd = some c → s.call = some call → s.replies = [] →
      step s = exec i { s with presented := if rest = [] then later else rest :: later })

/-- While a command is at a single transfer the step is `exec` of the request frame in `OUTBUF`: when `Xfer` is not yet called, and
when it is and its answer is there.  That the frame runs there as an instruction of its own is the model's choice (assumption 8). -/
def Obligations.StepRunsTheFrameInTransfer : Prop :=
  ∀ (s : State) (f : Frame) (i : Instr), s.cmd ≠ none → s.outbuf = [f] → decodeFrame f = .ok i →
    (s.call = none → step s = exec i s) ∧
    (∀ a rest, s.call = some .xfer → s.replies = .answer a :: rest → step s = exec i s)

/-- The other turns.  A call other than a single transfer returns by the step, and the command goes on through the answers that are
there (one step for all of them is the model's choice: assumption 7).  With nothing presented a command whose call never returns has
no successor (R14, R156; the stop and its name are the model's: assumption 16), and an idle RAC does not change (the model's choice:
assumption 6). -/
def Obligations.StepOnTheOtherTurns : Prop :=
  ∀ s : State,
    (∀ c call a rest, s.cmd = some c → s.call = some call → call ≠ .xfer → s.replies = .answer a :: rest →
      step s = .next (drain rest (returned call a s))) ∧
    (∀ c call, s.presented = [] → s.cmd = some c → s.call = some call → s.replies = [] → step s = .fault .blocked) ∧
    (s.presented = [] → s.cmd = none → step s = .next s)

/-! ### Validation and operands -/

/-- R81, R93: `ValidateRead` returns the data bytes of valid frames in order, and reports the first frame whose byte 0 is not
the handshake. -/
def Obligations.ReadValidationReportsTheFirstFailure : Prop :=
  ∀ good : List Frame, (∀ f ∈ good, f.b0 = 0xFF#8) →
    validateRead good = .ok (good.map Frame.b1) ∧
    ∀ (bad : Frame) (more : List Frame), bad.b0 ≠ 0xFF#8 →
      validateRead (good ++ bad :: more) = .error (.unexpectedHandshake good.length 0 bad.b0)

/-- R82, R93: `ValidateWrite` with both bytes checked accepts frames of two handshake bytes and reports the first failing frame,
byte 0 before byte 1; without the check of byte 1 it reports byte 0 only. -/
def Obligations.WriteValidationReportsTheFirstFailure : Prop :=
  (∀ good : List Frame, (∀ f ∈ good, f = ⟨0xFF#8, 0xFF#8⟩) →
    validateWrite true good = .ok () ∧
    ∀ (bad : Frame) (more : List Frame),
      (bad.b0 ≠ 0xFF#8 → validateWrite true (good ++ bad :: more) = .error (.unexpectedHandshake good.length 0 bad.b0)) ∧
      (bad.b0 = 0xFF#8 → bad.b1 ≠ 0xFF#8 →
        validateWrite true (good ++ bad :: more) = .error (.unexpectedHandshake good.length 1 bad.b1))) ∧
  (∀ good : List Frame, (∀ f ∈ good, f.b0 = 0xFF#8) →
    validateWrite false good = .ok () ∧
    ∀ (bad : Frame) (more : List Frame), bad.b0 ≠ 0xFF#8 →
      validateWrite false (good ++ bad :: more) = .error (.unexpectedHandshake good.length 0 bad.b0))

/-- R24: `K` ends a failing validation at the frame index the error records. -/
def Obligations.FrameIndexIsRecordedInTheError : Prop :=
  ∀ (s : State) (ins : List Frame) (k : Nat) (b : Fin 2) (got : Byte),
    (validateRead ins = .error (.unexpectedHandshake k b got) → (receive readOk ins s).k = k) ∧
    (∀ check1, validateWrite check1 ins = .error (.unexpectedHandshake k b got) → (receive (writeOk check1) ins s).k = k)

/-- R68: a sample coordinate is the two's-complement reading of its high and low byte. -/
def Obligations.CoordinateIsTwosComplement : Prop :=
  ∀ hi lo : Byte,
    (coordinate hi lo).toInt = 256 * (hi.toNat : Int) + lo.toNat - (if hi.getLsbD 7 then 65536 else 0)

/-! ### Register protocol -/

/-- R83: `RDREG` returns the response byte, for every register address and every value. -/
def Obligations.RdregReturnsTheResponseByte : Prop :=
  ∀ (s : State) (a v : Byte) (rest : List Reply), Ready s → a.getLsbD 7 = false →
    s.replies = .answer (.ok [⟨0xFF#8, v⟩]) :: rest →
    ∃ t, exec (.rdreg a) s = .next t ∧
      Ends s t (.ok (.byte v)) [.xfer ⟨a, 0x00#8⟩ (some ⟨0xFF#8, v⟩)] rest ∧ SameHandle s t

/-- R84, R95: `WRREG` returns its value operand. -/
def Obligations.WrregReturnsItsOperand : Prop :=
  ∀ (s : State) (a v : Byte) (rest : List Reply), Ready s → a.getLsbD 7 = false →
    s.replies = .answer (.ok [⟨0xFF#8, 0xFF#8⟩]) :: rest →
    ∃ t, exec (.wrreg a v) s = .next t ∧
      Ends s t (.ok (.byte v)) [.xfer ⟨a ||| 0x80#8, v⟩ (some ⟨0xFF#8, 0xFF#8⟩)] rest ∧ SameHandle s t

/-- R85, R96, R98: `RDREGS` sends one frame per operand in one batch and returns the response bytes in operand order; the empty
batch is sent too. -/
def Obligations.RdregsReturnsTheResponseBytes : Prop :=
  ∀ (s : State) (addrs vals : List Byte) (rest : List Reply), Ready s → (∀ a ∈ addrs, a.getLsbD 7 = false) →
    vals.length = addrs.length → s.replies = .answer (.ok (vals.map fun v => ⟨0xFF#8, v⟩)) :: rest →
    ∃ t, exec (.rdregs addrs) s = .next t ∧
      Ends s t (.ok (.bytes vals))
        [.xferBatch (addrs.map fun a => ⟨a, 0x00#8⟩) (some (vals.map fun v => ⟨0xFF#8, v⟩))] rest ∧ SameHandle s t

/-- R86, R96, R98: `WRREGS` sends one frame per pair in one batch and returns no value. -/
def Obligations.WrregsReturnsNoValue : Prop :=
  ∀ (s : State) (pairs : List (Byte × Byte)) (rest : List Reply), Ready s → (∀ p ∈ pairs, p.1.getLsbD 7 = false) →
    s.replies = .answer (.ok (List.replicate pairs.length ⟨0xFF#8, 0xFF#8⟩)) :: rest →
    ∃ t, exec (.wrregs pairs) s = .next t ∧
      Ends s t (.ok .unit)
        [.xferBatch (pairs.map fun p => ⟨p.1 ||| 0x80#8, p.2⟩) (some (List.replicate pairs.length ⟨0xFF#8, 0xFF#8⟩))]
        rest ∧ SameHandle s t

/-- R74, R127: a response frame without the handshake ends a single access with `UnexpectedHandshake`; byte 1 counts for
`WRREG` only, and after byte 0. -/
def Obligations.SingleAccessHandshakeFailure : Prop :=
  ∀ (s : State) (a v : Byte) (r : Frame) (rest : List Reply), Ready s → a.getLsbD 7 = false →
    s.replies = .answer (.ok [r]) :: rest →
    (r.b0 ≠ 0xFF#8 → ∃ t, exec (.rdreg a) s = .next t ∧
      Ends s t (.err (.unexpectedHandshake 0 0 r.b0)) [.xfer ⟨a, 0x00#8⟩ (some r)] rest ∧ SameHandle s t) ∧
    (r.b0 ≠ 0xFF#8 → ∃ t, exec (.wrreg a v) s = .next t ∧
      Ends s t (.err (.unexpectedHandshake 0 0 r.b0)) [.xfer ⟨a ||| 0x80#8, v⟩ (some r)] rest ∧ SameHandle s t) ∧
    (r.b0 = 0xFF#8 → r.b1 ≠ 0xFF#8 → ∃ t, exec (.wrreg a v) s = .next t ∧
      Ends s t (.err (.unexpectedHandshake 0 1 r.b1)) [.xfer ⟨a ||| 0x80#8, v⟩ (some r)] rest ∧ SameHandle s t)

/-- R89, R93, R94, R117: a batch whose frame after `good` fails ends with that frame's error and no values, and all its frames have
been exchanged. -/
def Obligations.BatchHandshakeFailure : Prop :=
  ∀ (s : State) (good more : List Frame) (bad : Frame) (rest : List Reply), Ready s →
    s.replies = .answer (.ok (good ++ bad :: more)) :: rest →
    (∀ addrs : List Byte, (∀ a ∈ addrs, a.getLsbD 7 = false) → addrs.length = (good ++ bad :: more).length →
      (∀ f ∈ good, f.b0 = 0xFF#8) → bad.b0 ≠ 0xFF#8 →
      ∃ t, exec (.rdregs addrs) s = .next t ∧
        Ends s t (.err (.unexpectedHandshake good.length 0 bad.b0))
          [.xferBatch (addrs.map fun a => ⟨a, 0x00#8⟩) (some (good ++ bad :: more))] rest ∧ SameHandle s t) ∧
    (∀ pairs : List (Byte × Byte), (∀ p ∈ pairs, p.1.getLsbD 7 = false) → pairs.length = (good ++ bad :: more).length →
      (∀ f ∈ good, f = ⟨0xFF#8, 0xFF#8⟩) →
      (bad.b0 ≠ 0xFF#8 → ∃ t, exec (.wrregs pairs) s = .next t ∧
        Ends s t (.err (.unexpectedHandshake good.length 0 bad.b0))
          [.xferBatch (pairs.map fun p => ⟨p.1 ||| 0x80#8, p.2⟩) (some (good ++ bad :: more))] rest ∧ SameHandle s t) ∧
      (bad.b0 = 0xFF#8 → bad.b1 ≠ 0xFF#8 → ∃ t, exec (.wrregs pairs) s = .next t ∧
        Ends s t (.err (.unexpectedHandshake good.length 1 bad.b1))
          [.xferBatch (pairs.map fun p => ⟨p.1 ||| 0x80#8, p.2⟩) (some (good ++ bad :: more))] rest ∧ SameHandle s t)) ∧
    ((good ++ bad :: more).length = 5 → (∀ f ∈ good, f.b0 = 0xFF#8) → bad.b0 ≠ 0xFF#8 →
      ∃ t, exec .rdsample s = .next t ∧
        Ends s t (.err (.unexpectedHandshake good.length 0 bad.b0))
          [.xferBatch [⟨0x02#8, 0x00#8⟩, ⟨0x03#8, 0x00#8⟩, ⟨0x04#8, 0x00#8⟩, ⟨0x05#8, 0x00#8⟩, ⟨0x06#8, 0x00#8⟩]
            (some (good ++ bad :: more))] rest ∧ SameHandle s t)

/-- R90, R126: a failed transport call ends each register command with `TransportError` of its call, and no data. -/
def Obligations.TransportFailureEndsAnAccess : Prop :=
  ∀ (s : State) (rest : List Reply), Ready s → s.replies = .answer .fail :: rest →
    (∀ a : Byte, a.getLsbD 7 = false → ∃ t, exec (.rdreg a) s = .next t ∧
      Ends s t (.err (.transportError .transfer)) [.xfer ⟨a, 0x00#8⟩ none] rest ∧ SameHandle s t) ∧
    (∀ a v : Byte, a.getLsbD 7 = false → ∃ t, exec (.wrreg a v) s = .next t ∧
      Ends s t (.err (.transportError .transfer)) [.xfer ⟨a ||| 0x80#8, v⟩ none] rest ∧ SameHandle s t) ∧
    (∀ addrs : List Byte, (∀ a ∈ addrs, a.getLsbD 7 = false) → ∃ t, exec (.rdregs addrs) s = .next t ∧
      Ends s t (.err (.transportError .transferBatch)) [.xferBatch (addrs.map fun a => ⟨a, 0x00#8⟩) none] rest ∧
      SameHandle s t) ∧
    (∀ pairs : List (Byte × Byte), (∀ p ∈ pairs, p.1.getLsbD 7 = false) → ∃ t, exec (.wrregs pairs) s = .next t ∧
      Ends s t (.err (.transportError .transferBatch)) [.xferBatch (pairs.map fun p => ⟨p.1 ||| 0x80#8, p.2⟩) none] rest ∧
      SameHandle s t) ∧
    (∃ t, exec .rdsample s = .next t ∧
      Ends s t (.err (.transportError .transferBatch))
        [.xferBatch [⟨0x02#8, 0x00#8⟩, ⟨0x03#8, 0x00#8⟩, ⟨0x04#8, 0x00#8⟩, ⟨0x05#8, 0x00#8⟩, ⟨0x06#8, 0x00#8⟩] none]
        rest ∧ SameHandle s t)

/-- R91, R92: an address operand with bit 7 set ends each register command with `CallerContractViolation` at the lowest such
operand, with no transport call and nothing appended to `H`. -/
def Obligations.IllegalAddressIsAContractViolation : Prop :=
  ∀ (s : State), Ready s →
    (∀ a : Byte, a.getLsbD 7 = true → ∃ t, exec (.rdreg a) s = .next t ∧
      Ends s t (.err (.callerContractViolation 0 a)) [] s.replies ∧ SameHandle s t) ∧
    (∀ a v : Byte, a.getLsbD 7 = true → ∃ t, exec (.wrreg a v) s = .next t ∧
      Ends s t (.err (.callerContractViolation 0 a)) [] s.replies ∧ SameHandle s t) ∧
    (∀ (before after : List Byte) (a : Byte), (∀ b ∈ before, b.getLsbD 7 = false) → a.getLsbD 7 = true →
      ∃ t, exec (.rdregs (before ++ a :: after)) s = .next t ∧
        Ends s t (.err (.callerContractViolation before.length a)) [] s.replies ∧ SameHandle s t) ∧
    (∀ (before after : List (Byte × Byte)) (a v : Byte), (∀ p ∈ before, p.1.getLsbD 7 = false) → a.getLsbD 7 = true →
      ∃ t, exec (.wrregs (before ++ (a, v) :: after)) s = .next t ∧
        Ends s t (.err (.callerContractViolation before.length a)) [] s.replies ∧ SameHandle s t)

/-- R117, R68: `RDSAMPLE` reads registers `0x02` to `0x06` in one batch, discards the first byte and returns the two
little-endian coordinates. -/
def Obligations.RdsampleReturnsTheSample : Prop :=
  ∀ (s : State) (b0 b1 b2 b3 b4 : Byte) (rest : List Reply), Ready s →
    s.replies = .answer (.ok [⟨0xFF#8, b0⟩, ⟨0xFF#8, b1⟩, ⟨0xFF#8, b2⟩, ⟨0xFF#8, b3⟩, ⟨0xFF#8, b4⟩]) :: rest →
    ∃ t, exec .rdsample s = .next t ∧
      Ends s t (.ok (.sample ⟨b2 ++ b1, b4 ++ b3⟩))
        [.xferBatch [⟨0x02#8, 0x00#8⟩, ⟨0x03#8, 0x00#8⟩, ⟨0x04#8, 0x00#8⟩, ⟨0x05#8, 0x00#8⟩, ⟨0x06#8, 0x00#8⟩]
          (some [⟨0xFF#8, b0⟩, ⟨0xFF#8, b1⟩, ⟨0xFF#8, b2⟩, ⟨0xFF#8, b3⟩, ⟨0xFF#8, b4⟩])] rest ∧ SameHandle s t

/-- R99, R118, R120: whatever the transport answers and in every phase, the register commands and `RDSAMPLE` leave `CH`, `XCFG`,
`PHASE`, `UNUSABLE`, `DEBUG` and the byte strings presented unchanged, and `SETDBG` leaves all of them but `DEBUG`. -/
def Obligations.AccessesKeepTheHandle : Prop :=
  ∀ (s t : State), s.cmd = none →
    (∀ i : Instr, (∃ a, i = .rdreg a) ∨ (∃ a v, i = .wrreg a v) ∨ (∃ addrs, i = .rdregs addrs) ∨
        (∃ pairs, i = .wrregs pairs) ∨ i = .rdsample →
      exec i s = .next t → SameHandle s t ∧ t.presented = s.presented) ∧
    (∀ d, exec (.setdbg d) s = .next t →
      SameChannel s t ∧ t.phase = s.phase ∧ t.unusable = s.unusable ∧ t.hist = s.hist ∧ SameFrameBuffers s t ∧ t.k = s.k ∧
        t.presented = s.presented)

/-- R13, R21, R83 to R86, R101, R103, R105, R117: an admitted command whose first transport call has not returned waits in it, with
its frames in `OUTBUF`; nothing else has changed.  That `exec` stops there is the model's choice (assumption 7), that `CLOSE` waits in
`TRelease` at all its reading (assumption 13). -/
def Obligations.UnansweredCommandsWaitInTheirCall : Prop :=
  ∀ s : State, Unanswered s →
    (∀ bus cs, NoHandle s →
      exec (.openCh bus cs) s = .next { s with cmd := some (.openCh bus cs), seq := .run, call := some .tOpen }) ∧
    (s.isOpen = true → s.cmd = none →
      exec .closeCh s = .next { s with cmd := some .closeCh, seq := .run, call := some .tRelease }) ∧
    (∀ a : Byte, Ready s → a.getLsbD 7 = false →
      exec (.rdreg a) s =
        .next { s with cmd := some (.rdreg a), seq := .run, call := some .xfer, outbuf := [⟨a, 0x00#8⟩] }) ∧
    (∀ a v : Byte, Ready s → a.getLsbD 7 = false →
      exec (.wrreg a v) s =
        .next { s with cmd := some (.wrreg a v), seq := .run, call := some .xfer, outbuf := [⟨a ||| 0x80#8, v⟩] }) ∧
    (∀ addrs : List Byte, Ready s → (∀ a ∈ addrs, a.getLsbD 7 = false) →
      exec (.rdregs addrs) s =
        .next { s with cmd := some (.rdregs addrs), seq := .run, call := some .xferBatch,
                       outbuf := addrs.map fun a => ⟨a, 0x00#8⟩ }) ∧
    (∀ pairs : List (Byte × Byte), Ready s → (∀ p ∈ pairs, p.1.getLsbD 7 = false) →
      exec (.wrregs pairs) s =
        .next { s with cmd := some (.wrregs pairs), seq := .run, call := some .xferBatch,
                       outbuf := pairs.map fun p => ⟨p.1 ||| 0x80#8, p.2⟩ }) ∧
    (Ready s → s.phase = .uninitialized →
      exec .init s = .next { s with cmd := some .init, seq := .por, call := some .xfer, outbuf := [⟨0xBA#8, 0x5A#8⟩] }) ∧
    (Ready s →
      exec .rdsample s =
        .next { s with cmd := some .rdsample, seq := .run, call := some .xferBatch,
                       outbuf := [⟨0x02#8, 0x00#8⟩, ⟨0x03#8, 0x00#8⟩, ⟨0x04#8, 0x00#8⟩, ⟨0x05#8, 0x00#8⟩,
                         ⟨0x06#8, 0x00#8⟩] })

/-! ### Wire frames -/

/-- R49, R62 to R65: the request frame of the command in progress (the frame in `OUTBUF`, R83, R84, R106 to R108) is exchanged,
whether `Xfer` was already called or is called now.  It ends an `RDREG` or `WRREG`; in `INIT` it leads to the next stage, which the
run goes on with, or ends `INIT` (R113).  That the frame runs as an instruction of its own is the model's choice (assumption 8). -/
def Obligations.RequestFramesAreExchanged : Prop :=
  ∀ (s : State) (rest : List Reply), s.call = none ∨ s.call = some .xfer →
    (∀ (a : Byte) (r : Frame), s.cmd = some (.rdreg a) → a.getLsbD 7 = false → s.replies = .answer (.ok [r]) :: rest →
      ∃ t, exec (.rdf (a.setWidth 7)) s = .next t ∧
        Ends s t (if r.b0 = 0xFF#8 then .ok (.byte r.b1) else .err (.unexpectedHandshake 0 0 r.b0))
          [.xfer ⟨a, 0x00#8⟩ (some r)] rest ∧ SameHandle s t) ∧
    (∀ (a v : Byte) (r : Frame), s.cmd = some (.wrreg a v) → a.getLsbD 7 = false → s.replies = .answer (.ok [r]) :: rest →
      ∃ t, exec (.wrf (a.setWidth 7) v) s = .next t ∧
        Ends s t
          (if r.b0 ≠ 0xFF#8 then .err (.unexpectedHandshake 0 0 r.b0)
            else if r.b1 ≠ 0xFF#8 then .err (.unexpectedHandshake 0 1 r.b1) else .ok (.byte v))
          [.xfer ⟨a ||| 0x80#8, v⟩ (some r)] rest ∧ SameHandle s t) ∧
    (s.replies = .answer .fail :: rest →
      (∀ a : Byte, s.cmd = some (.rdreg a) → a.getLsbD 7 = false → ∃ t, exec (.rdf (a.setWidth 7)) s = .next t ∧
        Ends s t (.err (.transportError .transfer)) [.xfer ⟨a, 0x00#8⟩ none] rest ∧ SameHandle s t) ∧
      (∀ a v : Byte, s.cmd = some (.wrreg a v) → a.getLsbD 7 = false → ∃ t, exec (.wrf (a.setWidth 7) v) s = .next t ∧
        Ends s t (.err (.transportError .transfer)) [.xfer ⟨a ||| 0x80#8, v⟩ none] rest ∧ SameHandle s t)) ∧
    (s.cmd = some .init → s.seq = .por →
      (s.replies = .answer .fail :: rest → ∃ t, exec (.wrf 0x3A#7 0x5A#8) s = .next t ∧
        Aborts s t (.transportError .transfer) [.xfer ⟨0xBA#8, 0x5A#8⟩ none] rest s.phase) ∧
      ∀ r : Frame, s.replies = .answer (.ok [r]) :: rest →
        (r ≠ ⟨0xFF#8, 0xFF#8⟩ → ∃ t, exec (.wrf 0x3A#7 0x5A#8) s = .next t ∧
          Aborts s t (if r.b0 = 0xFF#8 then .unexpectedHandshake 0 1 r.b1 else .unexpectedHandshake 0 0 r.b0)
            [.xfer ⟨0xBA#8, 0x5A#8⟩ (some r)] rest s.phase) ∧
        (r = ⟨0xFF#8, 0xFF#8⟩ → ∃ u, exec (.wrf 0x3A#7 0x5A#8) s = .next (run u) ∧
          GoesOn s u .pid .xfer [⟨0x00#8, 0x00#8⟩] [.xfer ⟨0xBA#8, 0x5A#8⟩ (some r)] rest s.phase)) ∧
    (s.cmd = some .init → s.seq = .pid →
      (s.replies = .answer .fail :: rest → ∃ t, exec (.rdf 0x00#7) s = .next t ∧
        Aborts s t (.transportError .transfer) [.xfer ⟨0x00#8, 0x00#8⟩ none] rest s.phase) ∧
      ∀ r : Frame, s.replies = .answer (.ok [r]) :: rest →
        (r.b0 ≠ 0xFF#8 → ∃ t, exec (.rdf 0x00#7) s = .next t ∧
          Aborts s t (.unexpectedHandshake 0 0 r.b0) [.xfer ⟨0x00#8, 0x00#8⟩ (some r)] rest s.phase) ∧
        (r.b0 = 0xFF#8 → r.b1 ≠ 0x49#8 → ∃ t, exec (.rdf 0x00#7) s = .next t ∧
          Aborts s t (.identityMismatch 0x00#8 0x49#8 r.b1)
            ([.xfer ⟨0x00#8, 0x00#8⟩ (some r)] ++ if s.debug then [.logged .productId r.b1] else []) rest s.phase) ∧
        (r.b0 = 0xFF#8 → r.b1 = 0x49#8 → ∃ u, exec (.rdf 0x00#7) s = .next (run u) ∧
          GoesOn s u .ipid .xfer [⟨0x5F#8, 0x00#8⟩]
            ([.xfer ⟨0x00#8, 0x00#8⟩ (some r)] ++ if s.debug then [.logged .productId r.b1] else []) rest s.phase)) ∧
    (s.cmd = some .init → s.seq = .ipid →
      (s.replies = .answer .fail :: rest → ∃ t, exec (.rdf 0x5F#7) s = .next t ∧
        Aborts s t (.transportError .transfer) [.xfer ⟨0x5F#8, 0x00#8⟩ none] rest s.phase) ∧
      ∀ r : Frame, s.replies = .answer (.ok [r]) :: rest →
        (r.b0 ≠ 0xFF#8 → ∃ t, exec (.rdf 0x5F#7) s = .next t ∧
          Aborts s t (.unexpectedHandshake 0 0 r.b0) [.xfer ⟨0x5F#8, 0x00#8⟩ (some r)] rest s.phase) ∧
        (r.b0 = 0xFF#8 → r.b1 ≠ 0xB6#8 → ∃ t, exec (.rdf 0x5F#7) s = .next t ∧
          Aborts s t (.identityMismatch 0x5F#8 0xB6#8 r.b1)
            ([.xfer ⟨0x5F#8, 0x00#8⟩ (some r)] ++ if s.debug then [.logged .inverseProductId r.b1] else []) rest s.phase) ∧
        (r.b0 = 0xFF#8 → r.b1 = 0xB6#8 → ∃ u, exec (.rdf 0x5F#7) s = .next (run u) ∧
          GoesOn s u .b1 .xferBatch (Config.configB1.toList.map fun e => ⟨1#1 ++ e.1, e.2⟩)
            ([.xfer ⟨0x5F#8, 0x00#8⟩ (some r)] ++ if s.debug then [.logged .inverseProductId r.b1] else []) rest
            .identified))

/-- A request frame whose exchange has not returned stands in `OUTBUF` with `Xfer` in progress, and nothing else changes; where no
command is in progress or another call is, frames stop by name (the model's choice: assumption 8). -/
def Obligations.FramesWaitOrAreRefused : Prop :=
  ∀ (s : State) (addr : Addr7) (v : Byte),
    (Unanswered s → s.cmd ≠ none → s.call = none ∨ s.call = some .xfer →
      exec (.rdf addr) s = .next { s with call := some .xfer, outbuf := [⟨0#1 ++ addr, 0x00#8⟩] } ∧
      exec (.wrf addr v) s = .next { s with call := some .xfer, outbuf := [⟨1#1 ++ addr, v⟩] }) ∧
    (s.cmd = none ∨ (s.call ≠ none ∧ s.call ≠ some .xfer) →
      exec (.rdf addr) s = .refused .frameOutsideTransfer ∧ exec (.wrf addr v) s = .refused .frameOutsideTransfer)

/-! ### Handle commands -/

/-- R101, R100: `OPEN` opens and configures the channel and leaves a fresh handle in phase `Uninitialized`.  That `K` is 0 and the
frame buffers are unchanged is the model's reading of R40 and R41 (assumption 5). -/
def Obligations.OpenGivesAFreshHandle : Prop :=
  ∀ (s : State) (bus cs : Byte) (ins1 ins2 : List Frame) (rest : List Reply), NoHandle s →
    s.replies = .answer (.ok ins1) :: .answer (.ok ins2) :: rest →
    ∃ t, exec (.openCh bus cs) s = .next t ∧
      Ends s t (.ok .unit) [.opened bus cs true, .configured ⟨8, 2000000, .msbFirst, .mode3⟩ true] rest ∧
      t.isOpen = true ∧ t.ch = some ⟨bus, cs⟩ ∧ t.xcfg = some ⟨8, 2000000, .msbFirst, .mode3⟩ ∧
      t.phase = .uninitialized ∧ t.unusable = false ∧ t.debug = false ∧ t.k = 0 ∧ SameFrameBuffers s t

/-- R101, R40: a failed `OPEN` leaves no handle; a channel whose configuration failed is released (`K` and the frame buffers:
assumption 5; any answer ends `TRelease`: assumption 13). -/
def Obligations.FailedOpenLeavesNoHandle : Prop :=
  ∀ (s : State) (bus cs : Byte) (rest : List Reply), NoHandle s →
    (s.replies = .answer .fail :: rest →
      ∃ t, exec (.openCh bus cs) s = .next t ∧
        Ends s t (.err (.transportError .openCall)) [.opened bus cs false] rest ∧
        t.isOpen = false ∧ t.ch = none ∧ t.xcfg = none ∧ t.unusable = false ∧ t.debug = false ∧ t.k = 0 ∧
        SameFrameBuffers s t) ∧
    (∀ ins a, s.replies = .answer (.ok ins) :: .answer .fail :: .answer a :: rest →
      ∃ t, exec (.openCh bus cs) s = .next t ∧
        Ends s t (.err (.transportError .configure))
          [.opened bus cs true, .configured ⟨8, 2000000, .msbFirst, .mode3⟩ false, .released] rest ∧
        t.isOpen = false ∧ t.ch = none ∧ t.xcfg = none ∧ t.unusable = false ∧ t.debug = false ∧ t.k = 0 ∧
        SameFrameBuffers s t)

/-- R103: `CLOSE` releases the channel and cannot fail; it is admitted on an unusable handle too (any answer ends `TRelease`:
assumption 13).  R143: nothing else survives it: whatever two handles differ in, if `REFUSED` and `H`, the caller's and the
transport's lists and the model's own fields are the same, `CLOSE` leaves them in the same state (`K` 0 follows R40, not R41:
assumption 5). -/
def Obligations.CloseReleasesTheHandle : Prop :=
  ∀ (s : State) (a : Answer) (rest : List Reply), s.isOpen = true → s.cmd = none → s.replies = .answer a :: rest →
    (∃ t, exec .closeCh s = .next t ∧ Ends s t (.ok .unit) [.released] rest ∧
      t.isOpen = false ∧ t.ch = none ∧ t.xcfg = none ∧ t.unusable = false ∧ t.debug = false ∧ t.k = 0) ∧
    (∀ s' : State, s'.isOpen = true → s'.cmd = none → s'.refused = s.refused → s'.hist = s.hist →
      s'.presented = s.presented → s'.replies = s.replies → s'.reason = s.reason → s'.fresh = s.fresh →
      exec .closeCh s' = exec .closeCh s)

/-- R104, R76: `SETDBG` writes `DEBUG` and `RES` and makes no transport call; an operand above `0x01` is refused as
`ReservedOperand`, which changes nothing but `REFUSED`. -/
def Obligations.SetdbgWritesTheDebugFlag : Prop :=
  ∀ s : State, Ready s →
    (∀ d : Bool, ∃ t, exec (.setdbg (if d then 0x01#8 else 0x00#8)) s = .next t ∧ Ends s t (.ok .unit) [] s.replies ∧
      t.debug = d ∧ SameChannel s t ∧ t.phase = s.phase ∧ t.unusable = s.unusable ∧ SameFrameBuffers s t ∧ t.k = s.k) ∧
    (∀ d : Byte, 0x01#8 < d → Idle s →
      ∃ t, exec (.setdbg d) s = .next t ∧ OnlyRefused .reservedOperand s t ∧ t.presented = s.presented)

/-! ### Refusals -/

/-- R80, R137: the admission checks in their order; a refusal sets `REFUSED` and changes nothing else the spec gives the
machine, a command in progress included (assumption 12). -/
def Obligations.AdmissionRefusals : Prop :=
  ∀ (s : State) (i : Instr), i.format = .cmd →
    (s.cmd ≠ none → ∃ t, exec i s = .next t ∧ OnlyRefused .busy s t ∧ t.presented = s.presented) ∧
    (s.cmd = none → s.isOpen = false → (∀ bus cs, i ≠ .openCh bus cs) →
      ∃ t, exec i s = .next t ∧ OnlyRefused .notOpen s t ∧ t.presented = s.presented) ∧
    (s.cmd = none → s.isOpen = true → (∃ bus cs, i = .openCh bus cs) →
      ∃ t, exec i s = .next t ∧ OnlyRefused .alreadyOpen s t ∧ t.presented = s.presented) ∧
    (s.cmd = none → s.isOpen = true → s.unusable = true → (∀ bus cs, i ≠ .openCh bus cs) → i ≠ .closeCh →
      ∃ t, exec i s = .next t ∧ OnlyRefused .unusable s t ∧ t.presented = s.presented)

/-- R105, R121: `INIT` is refused as `AlreadyInitialized` in every phase but `Uninitialized`, which changes nothing but `REFUSED`. -/
def Obligations.InitIsRefusedOutsideUninitialized : Prop :=
  ∀ s : State, Ready s → Idle s → s.phase ≠ .uninitialized →
    ∃ t, exec .init s = .next t ∧ OnlyRefused .alreadyInitialized s t ∧ t.presented = s.presented

/-! ### INIT -/

/-- R105 to R111, R114, R116: with every answer good, `INIT` sends its 72 frames in order with the delay between the batches and
leaves the device configured; with `DEBUG` set each identity value is logged after its read.  (Any answer ends
the delay: assumption 13.) -/
def Obligations.InitConfiguresTheDevice : Prop :=
  ∀ (s : State) (delayEnd : Answer) (rest : List Reply), Ready s → s.phase = .uninitialized →
    s.replies = .answer (.ok [⟨0xFF#8, 0xFF#8⟩]) :: .answer (.ok [⟨0xFF#8, 0x49#8⟩]) :: .answer (.ok [⟨0xFF#8, 0xB6#8⟩]) ::
      .answer (.ok (List.replicate 55 ⟨0xFF#8, 0xFF#8⟩)) :: .answer delayEnd ::
      .answer (.ok (List.replicate 14 ⟨0xFF#8, 0xFF#8⟩)) :: rest →
    ∃ t, exec .init s = .next t ∧
      Ends s t (.ok .unit)
        ([.xfer ⟨0xBA#8, 0x5A#8⟩ (some ⟨0xFF#8, 0xFF#8⟩), .xfer ⟨0x00#8, 0x00#8⟩ (some ⟨0xFF#8, 0x49#8⟩)] ++
          (if s.debug then [.logged .productId 0x49#8] else []) ++
          [.xfer ⟨0x5F#8, 0x00#8⟩ (some ⟨0xFF#8, 0xB6#8⟩)] ++
          (if s.debug then [.logged .inverseProductId 0xB6#8] else []) ++
          [.xferBatch (Config.configB1.toList.map fun e => ⟨1#1 ++ e.1, e.2⟩)
              (some (List.replicate 55 ⟨0xFF#8, 0xFF#8⟩)),
            .delayed 100,
            .xferBatch (Config.configB2.toList.map fun e => ⟨1#1 ++ e.1, e.2⟩)
              (some (List.replicate 14 ⟨0xFF#8, 0xFF#8⟩))]) rest ∧
      SameChannel s t ∧ t.debug = s.debug ∧ t.unusable = false ∧ t.phase = .configured

/-- R160: what each command costs in transport calls, frames and delays, when it ends without error, whatever happened before.  A
refusal is no end of a command: `REFUSED` is clear (R15). -/
def Obligations.CommandCosts : Prop :=
  ∀ (i : Instr) (s t : State) (v : Value), i.format = .cmd → s.cmd = none → NothingRefused s → NothingRefused t →
    exec i s = .next t → t.cmd = none → t.res = some (.ok v) →
    ∃ events, t.hist = s.hist ++ events ∧ cost events = costOf i

/-- R106, R113: a reset write that fails ends `INIT` there. -/
def Obligations.InitAbortsAtTheResetWrite : Prop :=
  ∀ (s : State) (r : Frame) (rest : List Reply), Ready s → s.phase = .uninitialized →
    (s.replies = .answer .fail :: rest → ∃ t, exec .init s = .next t ∧
      Aborts s t (.transportError .transfer) [.xfer ⟨0xBA#8, 0x5A#8⟩ none] rest .uninitialized) ∧
    (s.replies = .answer (.ok [r]) :: rest → r.b0 ≠ 0xFF#8 → ∃ t, exec .init s = .next t ∧
      Aborts s t (.unexpectedHandshake 0 0 r.b0) [.xfer ⟨0xBA#8, 0x5A#8⟩ (some r)] rest .uninitialized) ∧
    (s.replies = .answer (.ok [r]) :: rest → r.b0 = 0xFF#8 → r.b1 ≠ 0xFF#8 → ∃ t, exec .init s = .next t ∧
      Aborts s t (.unexpectedHandshake 0 1 r.b1) [.xfer ⟨0xBA#8, 0x5A#8⟩ (some r)] rest .uninitialized)

/-- R107, R122, R128, R113: a product ID read that fails or does not give `0x49` ends `INIT`: the inverse product ID is not read and no
configuration frame is sent.  A mismatching value is logged when `DEBUG` is set (R116). -/
def Obligations.InitAbortsAtTheProductId : Prop :=
  ∀ (s : State) (r : Frame) (rest : List Reply), Ready s → s.phase = .uninitialized →
    (s.replies = .answer (.ok [⟨0xFF#8, 0xFF#8⟩]) :: .answer .fail :: rest → ∃ t, exec .init s = .next t ∧
      Aborts s t (.transportError .transfer)
        [.xfer ⟨0xBA#8, 0x5A#8⟩ (some ⟨0xFF#8, 0xFF#8⟩), .xfer ⟨0x00#8, 0x00#8⟩ none] rest .uninitialized) ∧
    (s.replies = .answer (.ok [⟨0xFF#8, 0xFF#8⟩]) :: .answer (.ok [r]) :: rest →
      (r.b0 ≠ 0xFF#8 → ∃ t, exec .init s = .next t ∧
        Aborts s t (.unexpectedHandshake 0 0 r.b0)
          [.xfer ⟨0xBA#8, 0x5A#8⟩ (some ⟨0xFF#8, 0xFF#8⟩), .xfer ⟨0x00#8, 0x00#8⟩ (some r)] rest .uninitialized) ∧
      (r.b0 = 0xFF#8 → r.b1 ≠ 0x49#8 → ∃ t, exec .init s = .next t ∧
        Aborts s t (.identityMismatch 0x00#8 0x49#8 r.b1)
          ([.xfer ⟨0xBA#8, 0x5A#8⟩ (some ⟨0xFF#8, 0xFF#8⟩), .xfer ⟨0x00#8, 0x00#8⟩ (some r)] ++
            if s.debug then [.logged .productId r.b1] else []) rest .uninitialized))

/-- R108, R128, R113: an inverse product ID read that fails or does not give `0xB6` ends `INIT` before any configuration frame. -/
def Obligations.InitAbortsAtTheInverseProductId : Prop :=
  ∀ (s : State) (r : Frame) (rest : List Reply) (before : List Event), Ready s → s.phase = .uninitialized →
    before = [.xfer ⟨0xBA#8, 0x5A#8⟩ (some ⟨0xFF#8, 0xFF#8⟩), .xfer ⟨0x00#8, 0x00#8⟩ (some ⟨0xFF#8, 0x49#8⟩)] ++
      (if s.debug then [.logged .productId 0x49#8] else []) →
    (s.replies = .answer (.ok [⟨0xFF#8, 0xFF#8⟩]) :: .answer (.ok [⟨0xFF#8, 0x49#8⟩]) :: .answer .fail :: rest →
      ∃ t, exec .init s = .next t ∧
        Aborts s t (.transportError .transfer) (before ++ [.xfer ⟨0x5F#8, 0x00#8⟩ none]) rest .uninitialized) ∧
    (s.replies = .answer (.ok [⟨0xFF#8, 0xFF#8⟩]) :: .answer (.ok [⟨0xFF#8, 0x49#8⟩]) :: .answer (.ok [r]) :: rest →
      (r.b0 ≠ 0xFF#8 → ∃ t, exec .init s = .next t ∧
        Aborts s t (.unexpectedHandshake 0 0 r.b0) (before ++ [.xfer ⟨0x5F#8, 0x00#8⟩ (some r)]) rest .uninitialized) ∧
      (r.b0 = 0xFF#8 → r.b1 ≠ 0xB6#8 → ∃ t, exec .init s = .next t ∧
        Aborts s t (.identityMismatch 0x5F#8 0xB6#8 r.b1)
          (before ++ [.xfer ⟨0x5F#8, 0x00#8⟩ (some r)] ++ if s.debug then [.logged .inverseProductId r.b1] else [])
          rest .uninitialized))

/-- R109, R113: a failure in batch 1 ends `INIT` in phase `Identified`, with all 55 frames sent, no delay and no batch 2. -/
def Obligations.InitAbortsAtBatch1 : Prop :=
  ∀ (s : State) (good more : List Frame) (bad : Frame) (rest : List Reply), Ready s → s.phase = .uninitialized →
    s.debug = false →
    (s.replies = .answer (.ok [⟨0xFF#8, 0xFF#8⟩]) :: .answer (.ok [⟨0xFF#8, 0x49#8⟩]) :: .answer (.ok [⟨0xFF#8, 0xB6#8⟩]) ::
        .answer .fail :: rest →
      ∃ t, exec .init s = .next t ∧
        Aborts s t (.transportError .transferBatch)
          [.xfer ⟨0xBA#8, 0x5A#8⟩ (some ⟨0xFF#8, 0xFF#8⟩), .xfer ⟨0x00#8, 0x00#8⟩ (some ⟨0xFF#8, 0x49#8⟩),
            .xfer ⟨0x5F#8, 0x00#8⟩ (some ⟨0xFF#8, 0xB6#8⟩),
            .xferBatch (Config.configB1.toList.map fun e => ⟨1#1 ++ e.1, e.2⟩) none] rest .identified) ∧
    (s.replies = .answer (.ok [⟨0xFF#8, 0xFF#8⟩]) :: .answer (.ok [⟨0xFF#8, 0x49#8⟩]) :: .answer (.ok [⟨0xFF#8, 0xB6#8⟩]) ::
        .answer (.ok (good ++ bad :: more)) :: rest →
      (good ++ bad :: more).length = 55 → (∀ f ∈ good, f = ⟨0xFF#8, 0xFF#8⟩) → bad ≠ ⟨0xFF#8, 0xFF#8⟩ →
      ∃ t, exec .init s = .next t ∧
        Aborts s t
          (if bad.b0 = 0xFF#8 then .unexpectedHandshake good.length 1 bad.b1 else .unexpectedHandshake good.length 0 bad.b0)
          [.xfer ⟨0xBA#8, 0x5A#8⟩ (some ⟨0xFF#8, 0xFF#8⟩), .xfer ⟨0x00#8, 0x00#8⟩ (some ⟨0xFF#8, 0x49#8⟩),
            .xfer ⟨0x5F#8, 0x00#8⟩ (some ⟨0xFF#8, 0xB6#8⟩),
            .xferBatch (Config.configB1.toList.map fun e => ⟨1#1 ++ e.1, e.2⟩) (some (good ++ bad :: more))] rest .identified)

/-- R111, R113: a failure in batch 2 ends `INIT` in phase `Identified`, after the delay (which any answer ends: assumption 13). -/
def Obligations.InitAbortsAtBatch2 : Prop :=
  ∀ (s : State) (delayEnd : Answer) (good more : List Frame) (bad : Frame) (rest : List Reply) (before : List Event),
    Ready s → s.phase = .uninitialized → s.debug = false →
    before = [.xfer ⟨0xBA#8, 0x5A#8⟩ (some ⟨0xFF#8, 0xFF#8⟩), .xfer ⟨0x00#8, 0x00#8⟩ (some ⟨0xFF#8, 0x49#8⟩),
      .xfer ⟨0x5F#8, 0x00#8⟩ (some ⟨0xFF#8, 0xB6#8⟩),
      .xferBatch (Config.configB1.toList.map fun e => ⟨1#1 ++ e.1, e.2⟩) (some (List.replicate 55 ⟨0xFF#8, 0xFF#8⟩)),
      .delayed 100] →
    (s.replies = .answer (.ok [⟨0xFF#8, 0xFF#8⟩]) :: .answer (.ok [⟨0xFF#8, 0x49#8⟩]) :: .answer (.ok [⟨0xFF#8, 0xB6#8⟩]) ::
        .answer (.ok (List.replicate 55 ⟨0xFF#8, 0xFF#8⟩)) :: .answer delayEnd :: .answer .fail :: rest →
      ∃ t, exec .init s = .next t ∧
        Aborts s t (.transportError .transferBatch)
          (before ++ [.xferBatch (Config.configB2.toList.map fun e => ⟨1#1 ++ e.1, e.2⟩) none]) rest .identified) ∧
    (s.replies = .answer (.ok [⟨0xFF#8, 0xFF#8⟩]) :: .answer (.ok [⟨0xFF#8, 0x49#8⟩]) :: .answer (.ok [⟨0xFF#8, 0xB6#8⟩]) ::
        .answer (.ok (List.replicate 55 ⟨0xFF#8, 0xFF#8⟩)) :: .answer delayEnd ::
        .answer (.ok (good ++ bad :: more)) :: rest →
      (good ++ bad :: more).length = 14 → (∀ f ∈ good, f = ⟨0xFF#8, 0xFF#8⟩) → bad ≠ ⟨0xFF#8, 0xFF#8⟩ →
      ∃ t, exec .init s = .next t ∧
        Aborts s t
          (if bad.b0 = 0xFF#8 then .unexpectedHandshake good.length 1 bad.b1 else .unexpectedHandshake good.length 0 bad.b0)
          (before ++
            [.xferBatch (Config.configB2.toList.map fun e => ⟨1#1 ++ e.1, e.2⟩) (some (good ++ bad :: more))])
          rest .identified)

/-- R113, R120, R28: however the transport answers, an admitted `INIT` that has ended has either configured the device or ended with an
error, the handle unusable and the phase not `Configured`; the channel and `DEBUG` are unchanged. -/
def Obligations.InitConfiguresOrMakesUnusable : Prop :=
  ∀ (s t : State), Ready s → s.phase = .uninitialized → exec .init s = .next t →
    SameChannel s t ∧ t.debug = s.debug ∧
    (t.cmd = some .init ∨
      (t.cmd = none ∧ t.res = some (.ok .unit) ∧ t.phase = .configured ∧ t.unusable = false) ∨
      (t.cmd = none ∧ (∃ e, t.res = some (.err e)) ∧ (t.phase = .uninitialized ∨ t.phase = .identified) ∧ t.unusable = true))

/-! ### The whole machine -/

/-- R40, R144: the state at instantiation, for every element the table gives a value; `STATUS` is that of no handle (R35). -/
def Obligations.ResetStateIsTheTables : Prop :=
  State.reset.isOpen = false ∧ State.reset.ch = none ∧ State.reset.xcfg = none ∧ State.reset.unusable = false ∧
  State.reset.debug = false ∧ State.reset.cmd = none ∧ State.reset.seq = .idle ∧ State.reset.k = 0 ∧
  State.reset.res = none ∧ State.reset.refused = false ∧ State.reset.hist = []

/-- R35: the bits of the `STATUS` view. -/
def Obligations.StatusBits : Prop :=
  ∀ s : State,
    (status s).getLsbD 0 = s.isOpen ∧
    BitVec.extractLsb' 1 2 (status s) = (match s.phase with
      | .uninitialized => 0#2
      | .identified => 1#2
      | .configured => 2#2) ∧
    (status s).getLsbD 3 = s.unusable ∧ (status s).getLsbD 4 = s.debug ∧ (status s).getLsbD 5 = s.cmd.isSome ∧
    (status s).getLsbD 6 = s.refused ∧ (status s).getLsbD 7 = false

/-- The invariant holds at instantiation. -/
def Obligations.InvariantAtReset : Prop := Inv State.reset

/-- Every step keeps the invariant: `SEQ`, `CMD` and the transport call in progress agree, `OUTBUF` holds the frames of the
command's stage, the open handle has its channel and the one configuration, `PHASE` and `UNUSABLE` are those R28 and R120 allow.
(The fields of the call and of a refusal's reason are the model's: assumption 14; a refusal as Busy leaves the command in progress
alone: assumption 12.) -/
def Obligations.StepKeepsTheInvariant : Prop :=
  ∀ s t : State, Inv s → step s = .next t → Inv t

/-- In a state of the invariant a step always has a successor, but for a hang: a command whose call never returns, with nothing
presented (R14, R156; the stop's name is the model's: assumption 16). -/
def Obligations.OnlyAHangHasNoSuccessor : Prop :=
  ∀ s : State, Inv s →
    (∃ t, step s = .next t) ∨
    (step s = .fault .blocked ∧ s.cmd ≠ none ∧ s.replies = [] ∧ s.presented = [])

/-- R155: a transport call that never returns leaves the RAC busy for ever: after any number of steps the same command waits in the
same call, nothing has been sent or returned, and every command presented has been refused (which leaves the command in progress
alone: assumption 12). -/
def Obligations.HungTransportLeavesTheRacBusy : Prop :=
  ∀ (n : Nat) (s t : State), s.cmd ≠ none → s.call ≠ none → s.replies = [] →
    Host.Core.run Sys2Proof.core n s = .next t →
    t.cmd = s.cmd ∧ t.seq = s.seq ∧ t.call = s.call ∧ t.outbuf = s.outbuf ∧ t.res = s.res ∧ t.hist = s.hist ∧
      SameHandle s t ∧ (t = s ∨ t.refused = true)

/-- R156: if every transport call and delay returns, every command ends (within `exec`: assumption 7; `TRelease` and the delay at any
answer: assumption 13). -/
def Obligations.CommandsEndWhenCallsReturn : Prop :=
  ∀ (i : Instr) (s : State), i.format = .cmd → s.cmd = none → 6 ≤ s.replies.length →
    (∀ r ∈ s.replies, ∃ a, r = .answer a) → ∃ t, exec i s = .next t ∧ t.cmd = none

/-- A late answer changes nothing but when (R13, R156; the answers are a list in the model: assumption 9; one run for all
that are there: assumption 7): a command that waited for it ends as if it had been there. -/
def Obligations.LateAnswersChangeNothing : Prop :=
  ∀ (s t : State) (soon late : List Reply), t = run { s with replies := soon ++ .pending :: late } →
    t.replies = .pending :: late → t.call ≠ none →
    run { t with replies := late } = run { s with replies := soon ++ late }

/-- R33, R34, R37: a step appends to `H` and keeps what is in it, never clears `REFUSED`, and writes `RES` only when a command
ends: while one is in progress `RES` keeps the last outcome. -/
def Obligations.HistoryMarkAndResultAreKept : Prop :=
  ∀ s t : State, step s = .next t →
    (∃ events, t.hist = s.hist ++ events) ∧ (s.refused = true → t.refused = true) ∧ (t.cmd ≠ none → t.res = s.res)

/-- R27, R28, R31, R121: while a handle stays open, `PHASE` never goes back, `UNUSABLE` is never cleared, and the channel and `XCFG`
do not change. -/
def Obligations.OpenHandleOnlyAdvances : Prop :=
  ∀ s t : State, Inv s → step s = .next t → s.isOpen = true → t.isOpen = true →
    (phaseCode s.phase).toNat ≤ (phaseCode t.phase).toNat ∧ (s.unusable = true → t.unusable = true) ∧
      t.xcfg = s.xcfg ∧ t.ch = s.ch

/-- R23: within one `INIT` the sequencer never goes back. -/
def Obligations.InitStagesOnlyAdvance : Prop :=
  ∀ s t : State, Inv s → step s = .next t → s.cmd = some .init → t.cmd = some .init → seqCode s.seq ≤ seqCode t.seq

/-- R56, R110: batch 2 is entered only after batch 1 was exchanged and the settling delay has ended, and nothing is sent between
them; every step keeps this, and it holds at instantiation. -/
def Obligations.DelayStandsBetweenTheBatches : Prop :=
  Settled State.reset ∧ ∀ s t : State, Inv s → Settled s → step s = .next t → Settled t

/-- R75: no step puts a frame on the wire that is not one of the two request frames. -/
def Obligations.OnlyRequestFramesAreSent : Prop :=
  ∀ s t : State, Inv s → OnlyDefinedFrames s.hist → step s = .next t → OnlyDefinedFrames t.hist

/-- R130: each command can end only with the error kinds of the table.  A refusal is no end of a command: `REFUSED` is clear (R15).
(The table's violation of `INIT` could come only of a configuration table that breaks the premise of R7: assumption 2.) -/
def Obligations.ErrorKindsOfEachCommand : Prop :=
  ∀ (i : Instr) (s t : State) (e : ErrorRec), i.format = .cmd → s.cmd = none → NothingRefused s → NothingRefused t →
    exec i s = .next t → t.cmd = none → t.res = some (.err e) → canEndWith i e = true

/-- R29: the flag `DEBUG` has no effect on any other state, on any frame or on any result: two states that differ only in it and
in the debug output give outcomes that do too, for every instruction and for the step. -/
def Obligations.DebugFlagHasNoOtherEffect : Prop :=
  ∀ s t : State, eraseDebug s = eraseDebug t →
    (∀ i : Instr, SameButDebug (exec i s) (exec i t)) ∧ SameButDebug (step s) (step t)

/-- R87: a batched read sends the frames of the single reads in the same order and validates them alike: it returns the bytes the
single reads return, and fails at the first that fails, with its frame index.  All the single reads are issued here (`execAll` goes on
after one that ended with an error), so the frames are equal in the failing case too; R87 says that a sequence of single commands
stops exchanging at the first failure, which this caller does not do. -/
def Obligations.BatchReadIsSequentialReads : Prop :=
  ∀ (s : State) (addrs : List Byte) (ins : List Frame) (rest : List Reply), Ready s →
    (∀ a ∈ addrs, a.getLsbD 7 = false) → ins.length = addrs.length →
    ∃ tb ts, exec (.rdregs addrs) { s with replies := .answer (.ok ins) :: rest } = .next tb ∧
      execAll (addrs.map .rdreg) { s with replies := (ins.map fun f => .answer (.ok [f])) ++ rest } = .next ts ∧
      framesSent tb.hist = framesSent ts.hist ∧
      (∀ vals, tb.res = some (.ok (.bytes vals)) ↔
        resultsOf (addrs.map .rdreg) { s with replies := (ins.map fun f => .answer (.ok [f])) ++ rest } =
          vals.map fun v => some (.ok (.byte v))) ∧
      (∀ k got, tb.res = some (.err (.unexpectedHandshake k 0 got)) ↔
        (resultsOf (addrs.map .rdreg) { s with replies := (ins.map fun f => .answer (.ok [f])) ++ rest })[k]? =
            some (some (.err (.unexpectedHandshake 0 0 got))) ∧
          ∀ j < k, ∃ v,
            (resultsOf (addrs.map .rdreg) { s with replies := (ins.map fun f => .answer (.ok [f])) ++ rest })[j]? =
              some (some (.ok (.byte v))))

/-- R87: the same of a batched write.  All the single writes are issued here too (`execAll` goes on after one that ended with an
error), where R87 says of a sequence that it stops exchanging at the first failure. -/
def Obligations.BatchWriteIsSequentialWrites : Prop :=
  ∀ (s : State) (pairs : List (Byte × Byte)) (ins : List Frame) (rest : List Reply), Ready s →
    (∀ p ∈ pairs, p.1.getLsbD 7 = false) → ins.length = pairs.length →
    ∃ tb ts, exec (.wrregs pairs) { s with replies := .answer (.ok ins) :: rest } = .next tb ∧
      execAll (pairs.map fun p => .wrreg p.1 p.2) { s with replies := (ins.map fun f => .answer (.ok [f])) ++ rest } = .next ts ∧
      framesSent tb.hist = framesSent ts.hist ∧
      (tb.res = some (.ok .unit) ↔
        resultsOf (pairs.map fun p => .wrreg p.1 p.2) { s with replies := (ins.map fun f => .answer (.ok [f])) ++ rest } =
          pairs.map fun p => some (.ok (.byte p.2))) ∧
      (∀ k b got, tb.res = some (.err (.unexpectedHandshake k b got)) ↔
        (resultsOf (pairs.map fun p => .wrreg p.1 p.2)
            { s with replies := (ins.map fun f => .answer (.ok [f])) ++ rest })[k]? =
            some (some (.err (.unexpectedHandshake 0 b got))) ∧
          ∀ j < k, ∃ v,
            (resultsOf (pairs.map fun p => .wrreg p.1 p.2)
              { s with replies := (ins.map fun f => .answer (.ok [f])) ++ rest })[j]? = some (some (.ok (.byte v))))

/-- R53, D24: under the reference simulated device two samples read one after the other are the same, made of the bank's bytes. -/
def Obligations.SimulatedSampleIsIdempotent : Prop :=
  ∀ (s : State) (bank : Bank) (rest : List Reply), Ready s →
    s.replies = simAnswer bank (readFrames motionRegs) ::
      simAnswer (simFrames bank (readFrames motionRegs)).2 (readFrames motionRegs) :: rest →
    ∃ t u, exec .rdsample s = .next t ∧ exec .rdsample t = .next u ∧ u.res = t.res ∧
      t.res = some (.ok (.sample ⟨bank.read 4 ++ bank.read 3, bank.read 6 ++ bank.read 5⟩))
end

