-- ==== Sys2Proof/Laws/State.lean ====
section
/-! SUPPORT. One lemma per field per update of the state, true by rfl, so that no proof unfolds a record update: what each shared
operation of Machine/Ops.lean writes, and that it leaves every other field alone. -/

namespace Sys2Proof.Machine

@[simp] theorem refuse_isOpen (r : RefuseReason) (s : State) : (refuse r s).isOpen = s.isOpen := rfl
@[simp] theorem refuse_ch (r : RefuseReason) (s : State) : (refuse r s).ch = s.ch := rfl
@[simp] theorem refuse_xcfg (r : RefuseReason) (s : State) : (refuse r s).xcfg = s.xcfg := rfl
@[simp] theorem refuse_phase (r : RefuseReason) (s : State) : (refuse r s).phase = s.phase := rfl
@[simp] theorem refuse_unusable (r : RefuseReason) (s : State) : (refuse r s).unusable = s.unusable := rfl
@[simp] theorem refuse_debug (r : RefuseReason) (s : State) : (refuse r s).debug = s.debug := rfl
@[simp] theorem refuse_cmd (r : RefuseReason) (s : State) : (refuse r s).cmd = s.cmd := rfl
@[simp] theorem refuse_seq (r : RefuseReason) (s : State) : (refuse r s).seq = s.seq := rfl
@[simp] theorem refuse_k (r : RefuseReason) (s : State) : (refuse r s).k = s.k := rfl
@[simp] theorem refuse_outbuf (r : RefuseReason) (s : State) : (refuse r s).outbuf = s.outbuf := rfl
@[simp] theorem refuse_inbuf (r : RefuseReason) (s : State) : (refuse r s).inbuf = s.inbuf := rfl
@[simp] theorem refuse_res (r : RefuseReason) (s : State) : (refuse r s).res = s.res := rfl
@[simp] theorem refuse_refused (r : RefuseReason) (s : State) : (refuse r s).refused = true := rfl
@[simp] theorem refuse_hist (r : RefuseReason) (s : State) : (refuse r s).hist = s.hist := rfl
@[simp] theorem refuse_call (r : RefuseReason) (s : State) : (refuse r s).call = s.call := rfl
@[simp] theorem refuse_presented (r : RefuseReason) (s : State) : (refuse r s).presented = s.presented := rfl
@[simp] theorem refuse_replies (r : RefuseReason) (s : State) : (refuse r s).replies = s.replies := rfl
@[simp] theorem refuse_reason (r : RefuseReason) (s : State) : (refuse r s).reason = some r := rfl
@[simp] theorem refuse_fresh (r : RefuseReason) (s : State) : (refuse r s).fresh = s.fresh := rfl

@[simp] theorem begin_isOpen (c : Instr) (s : State) : (begin c s).isOpen = s.isOpen := rfl
@[simp] theorem begin_ch (c : Instr) (s : State) : (begin c s).ch = s.ch := rfl
@[simp] theorem begin_xcfg (c : Instr) (s : State) : (begin c s).xcfg = s.xcfg := rfl
@[simp] theorem begin_phase (c : Instr) (s : State) : (begin c s).phase = s.phase := rfl
@[simp] theorem begin_unusable (c : Instr) (s : State) : (begin c s).unusable = s.unusable := rfl
@[simp] theorem begin_debug (c : Instr) (s : State) : (begin c s).debug = s.debug := rfl
@[simp] theorem begin_cmd (c : Instr) (s : State) : (begin c s).cmd = some c := rfl
@[simp] theorem begin_seq (c : Instr) (s : State) : (begin c s).seq = firstStage c := rfl
@[simp] theorem begin_k (c : Instr) (s : State) : (begin c s).k = s.k := rfl
@[simp] theorem begin_outbuf (c : Instr) (s : State) : (begin c s).outbuf = s.outbuf := rfl
@[simp] theorem begin_inbuf (c : Instr) (s : State) : (begin c s).inbuf = s.inbuf := rfl
@[simp] theorem begin_res (c : Instr) (s : State) : (begin c s).res = s.res := rfl
@[simp] theorem begin_refused (c : Instr) (s : State) : (begin c s).refused = s.refused := rfl
@[simp] theorem begin_hist (c : Instr) (s : State) : (begin c s).hist = s.hist := rfl
@[simp] theorem begin_call (c : Instr) (s : State) : (begin c s).call = none := rfl
@[simp] theorem begin_presented (c : Instr) (s : State) : (begin c s).presented = s.presented := rfl
@[simp] theorem begin_replies (c : Instr) (s : State) : (begin c s).replies = s.replies := rfl
@[simp] theorem begin_reason (c : Instr) (s : State) : (begin c s).reason = s.reason := rfl
@[simp] theorem begin_fresh (c : Instr) (s : State) : (begin c s).fresh = s.fresh := rfl

@[simp] theorem refuseAdmitted_isOpen (r : RefuseReason) (s : State) : (refuseAdmitted r s).isOpen = s.isOpen := rfl
@[simp] theorem refuseAdmitted_ch (r : RefuseReason) (s : State) : (refuseAdmitted r s).ch = s.ch := rfl
@[simp] theorem refuseAdmitted_xcfg (r : RefuseReason) (s : State) : (refuseAdmitted r s).xcfg = s.xcfg := rfl
@[simp] theorem refuseAdmitted_phase (r : RefuseReason) (s : State) : (refuseAdmitted r s).phase = s.phase := rfl
@[simp] theorem refuseAdmitted_unusable (r : RefuseReason) (s : State) : (refuseAdmitted r s).unusable = s.unusable := rfl
@[simp] theorem refuseAdmitted_debug (r : RefuseReason) (s : State) : (refuseAdmitted r s).debug = s.debug := rfl
@[simp] theorem refuseAdmitted_cmd (r : RefuseReason) (s : State) : (refuseAdmitted r s).cmd = none := rfl
@[simp] theorem refuseAdmitted_seq (r : RefuseReason) (s : State) : (refuseAdmitted r s).seq = .idle := rfl
@[simp] theorem refuseAdmitted_k (r : RefuseReason) (s : State) : (refuseAdmitted r s).k = s.k := rfl
@[simp] theorem refuseAdmitted_outbuf (r : RefuseReason) (s : State) : (refuseAdmitted r s).outbuf = s.outbuf := rfl
@[simp] theorem refuseAdmitted_inbuf (r : RefuseReason) (s : State) : (refuseAdmitted r s).inbuf = s.inbuf := rfl
@[simp] theorem refuseAdmitted_res (r : RefuseReason) (s : State) : (refuseAdmitted r s).res = s.res := rfl
@[simp] theorem refuseAdmitted_refused (r : RefuseReason) (s : State) : (refuseAdmitted r s).refused = true := rfl
@[simp] theorem refuseAdmitted_hist (r : RefuseReason) (s : State) : (refuseAdmitted r s).hist = s.hist := rfl
@[simp] theorem refuseAdmitted_call (r : RefuseReason) (s : State) : (refuseAdmitted r s).call = s.call := rfl
@[simp] theorem refuseAdmitted_presented (r : RefuseReason) (s : State) : (refuseAdmitted r s).presented = s.presented := rfl
@[simp] theorem refuseAdmitted_replies (r : RefuseReason) (s : State) : (refuseAdmitted r s).replies = s.replies := rfl
@[simp] theorem refuseAdmitted_reason (r : RefuseReason) (s : State) : (refuseAdmitted r s).reason = some r := rfl
@[simp] theorem refuseAdmitted_fresh (r : RefuseReason) (s : State) : (refuseAdmitted r s).fresh = s.fresh := rfl

@[simp] theorem record_isOpen (e : Event) (s : State) : (record e s).isOpen = s.isOpen := rfl
@[simp] theorem record_ch (e : Event) (s : State) : (record e s).ch = s.ch := rfl
@[simp] theorem record_xcfg (e : Event) (s : State) : (record e s).xcfg = s.xcfg := rfl
@[simp] theorem record_phase (e : Event) (s : State) : (record e s).phase = s.phase := rfl
@[simp] theorem record_unusable (e : Event) (s : State) : (record e s).unusable = s.unusable := rfl
@[simp] theorem record_debug (e : Event) (s : State) : (record e s).debug = s.debug := rfl
@[simp] theorem record_cmd (e : Event) (s : State) : (record e s).cmd = s.cmd := rfl
@[simp] theorem record_seq (e : Event) (s : State) : (record e s).seq = s.seq := rfl
@[simp] theorem record_k (e : Event) (s : State) : (record e s).k = s.k := rfl
@[simp] theorem record_outbuf (e : Event) (s : State) : (record e s).outbuf = s.outbuf := rfl
@[simp] theorem record_inbuf (e : Event) (s : State) : (record e s).inbuf = s.inbuf := rfl
@[simp] theorem record_res (e : Event) (s : State) : (record e s).res = s.res := rfl
@[simp] theorem record_refused (e : Event) (s : State) : (record e s).refused = s.refused := rfl
@[simp] theorem record_hist (e : Event) (s : State) : (record e s).hist = s.hist ++ [e] := rfl
@[simp] theorem record_call (e : Event) (s : State) : (record e s).call = s.call := rfl
@[simp] theorem record_presented (e : Event) (s : State) : (record e s).presented = s.presented := rfl
@[simp] theorem record_replies (e : Event) (s : State) : (record e s).replies = s.replies := rfl
@[simp] theorem record_reason (e : Event) (s : State) : (record e s).reason = s.reason := rfl
@[simp] theorem record_fresh (e : Event) (s : State) : (record e s).fresh = s.fresh := rfl

@[simp] theorem finish_isOpen (r : Result) (s : State) : (finish r s).isOpen = s.isOpen := rfl
@[simp] theorem finish_ch (r : Result) (s : State) : (finish r s).ch = s.ch := rfl
@[simp] theorem finish_xcfg (r : Result) (s : State) : (finish r s).xcfg = s.xcfg := rfl
@[simp] theorem finish_phase (r : Result) (s : State) : (finish r s).phase = s.phase := rfl
@[simp] theorem finish_unusable (r : Result) (s : State) : (finish r s).unusable = s.unusable := rfl
@[simp] theorem finish_debug (r : Result) (s : State) : (finish r s).debug = s.debug := rfl
@[simp] theorem finish_cmd (r : Result) (s : State) : (finish r s).cmd = none := rfl
@[simp] theorem finish_seq (r : Result) (s : State) : (finish r s).seq = .idle := rfl
@[simp] theorem finish_k (r : Result) (s : State) : (finish r s).k = s.k := rfl
@[simp] theorem finish_outbuf (r : Result) (s : State) : (finish r s).outbuf = s.outbuf := rfl
@[simp] theorem finish_inbuf (r : Result) (s : State) : (finish r s).inbuf = s.inbuf := rfl
@[simp] theorem finish_res (r : Result) (s : State) : (finish r s).res = some r := rfl
@[simp] theorem finish_refused (r : Result) (s : State) : (finish r s).refused = s.refused := rfl
@[simp] theorem finish_hist (r : Result) (s : State) : (finish r s).hist = s.hist := rfl
@[simp] theorem finish_call (r : Result) (s : State) : (finish r s).call = none := rfl
@[simp] theorem finish_presented (r : Result) (s : State) : (finish r s).presented = s.presented := rfl
@[simp] theorem finish_replies (r : Result) (s : State) : (finish r s).replies = s.replies := rfl
@[simp] theorem finish_reason (r : Result) (s : State) : (finish r s).reason = s.reason := rfl
@[simp] theorem finish_fresh (r : Result) (s : State) : (finish r s).fresh = s.fresh := rfl

@[simp] theorem loseFrames_isOpen (s : State) : (loseFrames s).isOpen = s.isOpen := rfl
@[simp] theorem loseFrames_ch (s : State) : (loseFrames s).ch = s.ch := rfl
@[simp] theorem loseFrames_xcfg (s : State) : (loseFrames s).xcfg = s.xcfg := rfl
@[simp] theorem loseFrames_phase (s : State) : (loseFrames s).phase = s.phase := rfl
@[simp] theorem loseFrames_unusable (s : State) : (loseFrames s).unusable = s.unusable := rfl
@[simp] theorem loseFrames_debug (s : State) : (loseFrames s).debug = s.debug := rfl
@[simp] theorem loseFrames_cmd (s : State) : (loseFrames s).cmd = s.cmd := rfl
@[simp] theorem loseFrames_seq (s : State) : (loseFrames s).seq = s.seq := rfl
@[simp] theorem loseFrames_k (s : State) : (loseFrames s).k = s.k := rfl
@[simp] theorem loseFrames_outbuf (s : State) : (loseFrames s).outbuf = Config.staleFrames s.fresh := rfl
@[simp] theorem loseFrames_inbuf (s : State) : (loseFrames s).inbuf = Config.staleFrames (s.fresh + 1) := rfl
@[simp] theorem loseFrames_res (s : State) : (loseFrames s).res = s.res := rfl
@[simp] theorem loseFrames_refused (s : State) : (loseFrames s).refused = s.refused := rfl
@[simp] theorem loseFrames_hist (s : State) : (loseFrames s).hist = s.hist := rfl
@[simp] theorem loseFrames_call (s : State) : (loseFrames s).call = s.call := rfl
@[simp] theorem loseFrames_presented (s : State) : (loseFrames s).presented = s.presented := rfl
@[simp] theorem loseFrames_replies (s : State) : (loseFrames s).replies = s.replies := rfl
@[simp] theorem loseFrames_reason (s : State) : (loseFrames s).reason = s.reason := rfl
@[simp] theorem loseFrames_fresh (s : State) : (loseFrames s).fresh = s.fresh + 2 := rfl

@[simp] theorem loseBuffers_isOpen (s : State) : (loseBuffers s).isOpen = s.isOpen := rfl
@[simp] theorem loseBuffers_ch (s : State) : (loseBuffers s).ch = s.ch := rfl
@[simp] theorem loseBuffers_xcfg (s : State) : (loseBuffers s).xcfg = s.xcfg := rfl
@[simp] theorem loseBuffers_phase (s : State) : (loseBuffers s).phase = s.phase := rfl
@[simp] theorem loseBuffers_unusable (s : State) : (loseBuffers s).unusable = s.unusable := rfl
@[simp] theorem loseBuffers_debug (s : State) : (loseBuffers s).debug = s.debug := rfl
@[simp] theorem loseBuffers_cmd (s : State) : (loseBuffers s).cmd = s.cmd := rfl
@[simp] theorem loseBuffers_seq (s : State) : (loseBuffers s).seq = s.seq := rfl
@[simp] theorem loseBuffers_k (s : State) : (loseBuffers s).k = Config.staleIndex (s.fresh + 2) := rfl
@[simp] theorem loseBuffers_outbuf (s : State) : (loseBuffers s).outbuf = Config.staleFrames s.fresh := rfl
@[simp] theorem loseBuffers_inbuf (s : State) : (loseBuffers s).inbuf = Config.staleFrames (s.fresh + 1) := rfl
@[simp] theorem loseBuffers_res (s : State) : (loseBuffers s).res = s.res := rfl
@[simp] theorem loseBuffers_refused (s : State) : (loseBuffers s).refused = s.refused := rfl
@[simp] theorem loseBuffers_hist (s : State) : (loseBuffers s).hist = s.hist := rfl
@[simp] theorem loseBuffers_call (s : State) : (loseBuffers s).call = s.call := rfl
@[simp] theorem loseBuffers_presented (s : State) : (loseBuffers s).presented = s.presented := rfl
@[simp] theorem loseBuffers_replies (s : State) : (loseBuffers s).replies = s.replies := rfl
@[simp] theorem loseBuffers_reason (s : State) : (loseBuffers s).reason = s.reason := rfl
@[simp] theorem loseBuffers_fresh (s : State) : (loseBuffers s).fresh = s.fresh + 3 := rfl

@[simp] theorem dropHandle_isOpen (s : State) : (dropHandle s).isOpen = false := rfl
@[simp] theorem dropHandle_ch (s : State) : (dropHandle s).ch = none := rfl
@[simp] theorem dropHandle_xcfg (s : State) : (dropHandle s).xcfg = none := rfl
@[simp] theorem dropHandle_phase (s : State) : (dropHandle s).phase = Config.stalePhase s.fresh := rfl
@[simp] theorem dropHandle_unusable (s : State) : (dropHandle s).unusable = false := rfl
@[simp] theorem dropHandle_debug (s : State) : (dropHandle s).debug = false := rfl
@[simp] theorem dropHandle_cmd (s : State) : (dropHandle s).cmd = s.cmd := rfl
@[simp] theorem dropHandle_seq (s : State) : (dropHandle s).seq = s.seq := rfl
@[simp] theorem dropHandle_k (s : State) : (dropHandle s).k = 0 := rfl
@[simp] theorem dropHandle_outbuf (s : State) : (dropHandle s).outbuf = s.outbuf := rfl
@[simp] theorem dropHandle_inbuf (s : State) : (dropHandle s).inbuf = s.inbuf := rfl
@[simp] theorem dropHandle_res (s : State) : (dropHandle s).res = s.res := rfl
@[simp] theorem dropHandle_refused (s : State) : (dropHandle s).refused = s.refused := rfl
@[simp] theorem dropHandle_hist (s : State) : (dropHandle s).hist = s.hist := rfl
@[simp] theorem dropHandle_call (s : State) : (dropHandle s).call = s.call := rfl
@[simp] theorem dropHandle_presented (s : State) : (dropHandle s).presented = s.presented := rfl
@[simp] theorem dropHandle_replies (s : State) : (dropHandle s).replies = s.replies := rfl
@[simp] theorem dropHandle_reason (s : State) : (dropHandle s).reason = s.reason := rfl
@[simp] theorem dropHandle_fresh (s : State) : (dropHandle s).fresh = s.fresh + 1 := rfl

@[simp] theorem issue_isOpen (c : Pending) (s : State) : (issue c s).isOpen = s.isOpen := rfl
@[simp] theorem issue_ch (c : Pending) (s : State) : (issue c s).ch = s.ch := rfl
@[simp] theorem issue_xcfg (c : Pending) (s : State) : (issue c s).xcfg = s.xcfg := rfl
@[simp] theorem issue_phase (c : Pending) (s : State) : (issue c s).phase = s.phase := rfl
@[simp] theorem issue_unusable (c : Pending) (s : State) : (issue c s).unusable = s.unusable := rfl
@[simp] theorem issue_debug (c : Pending) (s : State) : (issue c s).debug = s.debug := rfl
@[simp] theorem issue_cmd (c : Pending) (s : State) : (issue c s).cmd = s.cmd := rfl
@[simp] theorem issue_seq (c : Pending) (s : State) : (issue c s).seq = s.seq := rfl
@[simp] theorem issue_k (c : Pending) (s : State) : (issue c s).k = s.k := rfl
@[simp] theorem issue_outbuf (c : Pending) (s : State) : (issue c s).outbuf = s.outbuf := rfl
@[simp] theorem issue_inbuf (c : Pending) (s : State) : (issue c s).inbuf = s.inbuf := rfl
@[simp] theorem issue_res (c : Pending) (s : State) : (issue c s).res = s.res := rfl
@[simp] theorem issue_refused (c : Pending) (s : State) : (issue c s).refused = s.refused := rfl
@[simp] theorem issue_hist (c : Pending) (s : State) : (issue c s).hist = s.hist := rfl
@[simp] theorem issue_call (c : Pending) (s : State) : (issue c s).call = some c := rfl
@[simp] theorem issue_presented (c : Pending) (s : State) : (issue c s).presented = s.presented := rfl
@[simp] theorem issue_replies (c : Pending) (s : State) : (issue c s).replies = s.replies := rfl
@[simp] theorem issue_reason (c : Pending) (s : State) : (issue c s).reason = s.reason := rfl
@[simp] theorem issue_fresh (c : Pending) (s : State) : (issue c s).fresh = s.fresh := rfl

@[simp] theorem issueXfer_isOpen (f : Frame) (s : State) : (issueXfer f s).isOpen = s.isOpen := rfl
@[simp] theorem issueXfer_ch (f : Frame) (s : State) : (issueXfer f s).ch = s.ch := rfl
@[simp] theorem issueXfer_xcfg (f : Frame) (s : State) : (issueXfer f s).xcfg = s.xcfg := rfl
@[simp] theorem issueXfer_phase (f : Frame) (s : State) : (issueXfer f s).phase = s.phase := rfl
@[simp] theorem issueXfer_unusable (f : Frame) (s : State) : (issueXfer f s).unusable = s.unusable := rfl
@[simp] theorem issueXfer_debug (f : Frame) (s : State) : (issueXfer f s).debug = s.debug := rfl
@[simp] theorem issueXfer_cmd (f : Frame) (s : State) : (issueXfer f s).cmd = s.cmd := rfl
@[simp] theorem issueXfer_seq (f : Frame) (s : State) : (issueXfer f s).seq = s.seq := rfl
@[simp] theorem issueXfer_k (f : Frame) (s : State) : (issueXfer f s).k = s.k := rfl
@[simp] theorem issueXfer_outbuf (f : Frame) (s : State) : (issueXfer f s).outbuf = [f] := rfl
@[simp] theorem issueXfer_inbuf (f : Frame) (s : State) : (issueXfer f s).inbuf = s.inbuf := rfl
@[simp] theorem issueXfer_res (f : Frame) (s : State) : (issueXfer f s).res = s.res := rfl
@[simp] theorem issueXfer_refused (f : Frame) (s : State) : (issueXfer f s).refused = s.refused := rfl
@[simp] theorem issueXfer_hist (f : Frame) (s : State) : (issueXfer f s).hist = s.hist := rfl
@[simp] theorem issueXfer_call (f : Frame) (s : State) : (issueXfer f s).call = some .xfer := rfl
@[simp] theorem issueXfer_presented (f : Frame) (s : State) : (issueXfer f s).presented = s.presented := rfl
@[simp] theorem issueXfer_replies (f : Frame) (s : State) : (issueXfer f s).replies = s.replies := rfl
@[simp] theorem issueXfer_reason (f : Frame) (s : State) : (issueXfer f s).reason = s.reason := rfl
@[simp] theorem issueXfer_fresh (f : Frame) (s : State) : (issueXfer f s).fresh = s.fresh := rfl

@[simp] theorem issueBatch_isOpen (outs : List Frame) (s : State) : (issueBatch outs s).isOpen = s.isOpen := rfl
@[simp] theorem issueBatch_ch (outs : List Frame) (s : State) : (issueBatch outs s).ch = s.ch := rfl
@[simp] theorem issueBatch_xcfg (outs : List Frame) (s : State) : (issueBatch outs s).xcfg = s.xcfg := rfl
@[simp] theorem issueBatch_phase (outs : List Frame) (s : State) : (issueBatch outs s).phase = s.phase := rfl
@[simp] theorem issueBatch_unusable (outs : List Frame) (s : State) : (issueBatch outs s).unusable = s.unusable := rfl
@[simp] theorem issueBatch_debug (outs : List Frame) (s : State) : (issueBatch outs s).debug = s.debug := rfl
@[simp] theorem issueBatch_cmd (outs : List Frame) (s : State) : (issueBatch outs s).cmd = s.cmd := rfl
@[simp] theorem issueBatch_seq (outs : List Frame) (s : State) : (issueBatch outs s).seq = s.seq := rfl
@[simp] theorem issueBatch_k (outs : List Frame) (s : State) : (issueBatch outs s).k = s.k := rfl
@[simp] theorem issueBatch_outbuf (outs : List Frame) (s : State) : (issueBatch outs s).outbuf = outs := rfl
@[simp] theorem issueBatch_inbuf (outs : List Frame) (s : State) : (issueBatch outs s).inbuf = s.inbuf := rfl
@[simp] theorem issueBatch_res (outs : List Frame) (s : State) : (issueBatch outs s).res = s.res := rfl
@[simp] theorem issueBatch_refused (outs : List Frame) (s : State) : (issueBatch outs s).refused = s.refused := rfl
@[simp] theorem issueBatch_hist (outs : List Frame) (s : State) : (issueBatch outs s).hist = s.hist := rfl
@[simp] theorem issueBatch_call (outs : List Frame) (s : State) : (issueBatch outs s).call = some .xferBatch := rfl
@[simp] theorem issueBatch_presented (outs : List Frame) (s : State) : (issueBatch outs s).presented = s.presented := rfl
@[simp] theorem issueBatch_replies (outs : List Frame) (s : State) : (issueBatch outs s).replies = s.replies := rfl
@[simp] theorem issueBatch_reason (outs : List Frame) (s : State) : (issueBatch outs s).reason = s.reason := rfl
@[simp] theorem issueBatch_fresh (outs : List Frame) (s : State) : (issueBatch outs s).fresh = s.fresh := rfl

@[simp] theorem receive_isOpen (good : Frame → Bool) (ins : List Frame) (s : State) : (receive good ins s).isOpen = s.isOpen := rfl
@[simp] theorem receive_ch (good : Frame → Bool) (ins : List Frame) (s : State) : (receive good ins s).ch = s.ch := rfl
@[simp] theorem receive_xcfg (good : Frame → Bool) (ins : List Frame) (s : State) : (receive good ins s).xcfg = s.xcfg := rfl
@[simp] theorem receive_phase (good : Frame → Bool) (ins : List Frame) (s : State) : (receive good ins s).phase = s.phase := rfl
@[simp] theorem receive_unusable (good : Frame → Bool) (ins : List Frame) (s : State) : (receive good ins s).unusable = s.unusable := rfl
@[simp] theorem receive_debug (good : Frame → Bool) (ins : List Frame) (s : State) : (receive good ins s).debug = s.debug := rfl
@[simp] theorem receive_cmd (good : Frame → Bool) (ins : List Frame) (s : State) : (receive good ins s).cmd = s.cmd := rfl
@[simp] theorem receive_seq (good : Frame → Bool) (ins : List Frame) (s : State) : (receive good ins s).seq = s.seq := rfl
@[simp] theorem receive_k (good : Frame → Bool) (ins : List Frame) (s : State) : (receive good ins s).k = finalIndex good ins := rfl
@[simp] theorem receive_outbuf (good : Frame → Bool) (ins : List Frame) (s : State) : (receive good ins s).outbuf = s.outbuf := rfl
@[simp] theorem receive_inbuf (good : Frame → Bool) (ins : List Frame) (s : State) : (receive good ins s).inbuf = ins := rfl
@[simp] theorem receive_res (good : Frame → Bool) (ins : List Frame) (s : State) : (receive good ins s).res = s.res := rfl
@[simp] theorem receive_refused (good : Frame → Bool) (ins : List Frame) (s : State) : (receive good ins s).refused = s.refused := rfl
@[simp] theorem receive_hist (good : Frame → Bool) (ins : List Frame) (s : State) : (receive good ins s).hist = s.hist := rfl
@[simp] theorem receive_call (good : Frame → Bool) (ins : List Frame) (s : State) : (receive good ins s).call = s.call := rfl
@[simp] theorem receive_presented (good : Frame → Bool) (ins : List Frame) (s : State) : (receive good ins s).presented = s.presented := rfl
@[simp] theorem receive_replies (good : Frame → Bool) (ins : List Frame) (s : State) : (receive good ins s).replies = s.replies := rfl
@[simp] theorem receive_reason (good : Frame → Bool) (ins : List Frame) (s : State) : (receive good ins s).reason = s.reason := rfl
@[simp] theorem receive_fresh (good : Frame → Bool) (ins : List Frame) (s : State) : (receive good ins s).fresh = s.fresh := rfl

@[simp] theorem returnValue_isOpen (v : Value) (s : State) : (returnValue v s).isOpen = s.isOpen := rfl
@[simp] theorem returnValue_ch (v : Value) (s : State) : (returnValue v s).ch = s.ch := rfl
@[simp] theorem returnValue_xcfg (v : Value) (s : State) : (returnValue v s).xcfg = s.xcfg := rfl
@[simp] theorem returnValue_phase (v : Value) (s : State) : (returnValue v s).phase = s.phase := rfl
@[simp] theorem returnValue_unusable (v : Value) (s : State) : (returnValue v s).unusable = s.unusable := rfl
@[simp] theorem returnValue_debug (v : Value) (s : State) : (returnValue v s).debug = s.debug := rfl
@[simp] theorem returnValue_cmd (v : Value) (s : State) : (returnValue v s).cmd = none := rfl
@[simp] theorem returnValue_seq (v : Value) (s : State) : (returnValue v s).seq = .idle := rfl
@[simp] theorem returnValue_k (v : Value) (s : State) : (returnValue v s).k = Config.staleIndex (s.fresh + 2) := rfl
@[simp] theorem returnValue_outbuf (v : Value) (s : State) : (returnValue v s).outbuf = Config.staleFrames s.fresh := rfl
@[simp] theorem returnValue_inbuf (v : Value) (s : State) : (returnValue v s).inbuf = Config.staleFrames (s.fresh + 1) := rfl
@[simp] theorem returnValue_res (v : Value) (s : State) : (returnValue v s).res = some (.ok v) := rfl
@[simp] theorem returnValue_refused (v : Value) (s : State) : (returnValue v s).refused = s.refused := rfl
@[simp] theorem returnValue_hist (v : Value) (s : State) : (returnValue v s).hist = s.hist := rfl
@[simp] theorem returnValue_call (v : Value) (s : State) : (returnValue v s).call = none := rfl
@[simp] theorem returnValue_presented (v : Value) (s : State) : (returnValue v s).presented = s.presented := rfl
@[simp] theorem returnValue_replies (v : Value) (s : State) : (returnValue v s).replies = s.replies := rfl
@[simp] theorem returnValue_reason (v : Value) (s : State) : (returnValue v s).reason = s.reason := rfl
@[simp] theorem returnValue_fresh (v : Value) (s : State) : (returnValue v s).fresh = s.fresh + 3 := rfl

@[simp] theorem raiseError_isOpen (e : ErrorRec) (s : State) : (raiseError e s).isOpen = s.isOpen := rfl
@[simp] theorem raiseError_ch (e : ErrorRec) (s : State) : (raiseError e s).ch = s.ch := rfl
@[simp] theorem raiseError_xcfg (e : ErrorRec) (s : State) : (raiseError e s).xcfg = s.xcfg := rfl
@[simp] theorem raiseError_phase (e : ErrorRec) (s : State) : (raiseError e s).phase = s.phase := rfl
@[simp] theorem raiseError_unusable (e : ErrorRec) (s : State) : (raiseError e s).unusable = (s.unusable || decide (s.cmd = some .init)) := rfl
@[simp] theorem raiseError_debug (e : ErrorRec) (s : State) : (raiseError e s).debug = s.debug := rfl
@[simp] theorem raiseError_cmd (e : ErrorRec) (s : State) : (raiseError e s).cmd = none := rfl
@[simp] theorem raiseError_seq (e : ErrorRec) (s : State) : (raiseError e s).seq = .idle := rfl
@[simp] theorem raiseError_k (e : ErrorRec) (s : State) : (raiseError e s).k = s.k := rfl
@[simp] theorem raiseError_outbuf (e : ErrorRec) (s : State) : (raiseError e s).outbuf = s.outbuf := rfl
@[simp] theorem raiseError_inbuf (e : ErrorRec) (s : State) : (raiseError e s).inbuf = s.inbuf := rfl
@[simp] theorem raiseError_res (e : ErrorRec) (s : State) : (raiseError e s).res = some (.err e) := rfl
@[simp] theorem raiseError_refused (e : ErrorRec) (s : State) : (raiseError e s).refused = s.refused := rfl
@[simp] theorem raiseError_hist (e : ErrorRec) (s : State) : (raiseError e s).hist = s.hist := rfl
@[simp] theorem raiseError_call (e : ErrorRec) (s : State) : (raiseError e s).call = none := rfl
@[simp] theorem raiseError_presented (e : ErrorRec) (s : State) : (raiseError e s).presented = s.presented := rfl
@[simp] theorem raiseError_replies (e : ErrorRec) (s : State) : (raiseError e s).replies = s.replies := rfl
@[simp] theorem raiseError_reason (e : ErrorRec) (s : State) : (raiseError e s).reason = s.reason := rfl
@[simp] theorem raiseError_fresh (e : ErrorRec) (s : State) : (raiseError e s).fresh = s.fresh := rfl

@[simp] theorem raiseAccess_isOpen (e : ErrorRec) (s : State) : (raiseAccess e s).isOpen = s.isOpen := rfl
@[simp] theorem raiseAccess_ch (e : ErrorRec) (s : State) : (raiseAccess e s).ch = s.ch := rfl
@[simp] theorem raiseAccess_xcfg (e : ErrorRec) (s : State) : (raiseAccess e s).xcfg = s.xcfg := rfl
@[simp] theorem raiseAccess_phase (e : ErrorRec) (s : State) : (raiseAccess e s).phase = s.phase := rfl
@[simp] theorem raiseAccess_unusable (e : ErrorRec) (s : State) : (raiseAccess e s).unusable = (s.unusable || decide (s.cmd = some .init)) := rfl
@[simp] theorem raiseAccess_debug (e : ErrorRec) (s : State) : (raiseAccess e s).debug = s.debug := rfl
@[simp] theorem raiseAccess_cmd (e : ErrorRec) (s : State) : (raiseAccess e s).cmd = none := rfl
@[simp] theorem raiseAccess_seq (e : ErrorRec) (s : State) : (raiseAccess e s).seq = .idle := rfl
@[simp] theorem raiseAccess_k (e : ErrorRec) (s : State) : (raiseAccess e s).k = Config.staleIndex (s.fresh + 2) := rfl
@[simp] theorem raiseAccess_outbuf (e : ErrorRec) (s : State) : (raiseAccess e s).outbuf = Config.staleFrames s.fresh := rfl
@[simp] theorem raiseAccess_inbuf (e : ErrorRec) (s : State) : (raiseAccess e s).inbuf = Config.staleFrames (s.fresh + 1) := rfl
@[simp] theorem raiseAccess_res (e : ErrorRec) (s : State) : (raiseAccess e s).res = some (.err e) := rfl
@[simp] theorem raiseAccess_refused (e : ErrorRec) (s : State) : (raiseAccess e s).refused = s.refused := rfl
@[simp] theorem raiseAccess_hist (e : ErrorRec) (s : State) : (raiseAccess e s).hist = s.hist := rfl
@[simp] theorem raiseAccess_call (e : ErrorRec) (s : State) : (raiseAccess e s).call = none := rfl
@[simp] theorem raiseAccess_presented (e : ErrorRec) (s : State) : (raiseAccess e s).presented = s.presented := rfl
@[simp] theorem raiseAccess_replies (e : ErrorRec) (s : State) : (raiseAccess e s).replies = s.replies := rfl
@[simp] theorem raiseAccess_reason (e : ErrorRec) (s : State) : (raiseAccess e s).reason = s.reason := rfl
@[simp] theorem raiseAccess_fresh (e : ErrorRec) (s : State) : (raiseAccess e s).fresh = s.fresh + 3 := rfl

@[simp] theorem endCall_isOpen (s : State) : (endCall s).isOpen = s.isOpen := rfl
@[simp] theorem endCall_ch (s : State) : (endCall s).ch = s.ch := rfl
@[simp] theorem endCall_xcfg (s : State) : (endCall s).xcfg = s.xcfg := rfl
@[simp] theorem endCall_phase (s : State) : (endCall s).phase = s.phase := rfl
@[simp] theorem endCall_unusable (s : State) : (endCall s).unusable = s.unusable := rfl
@[simp] theorem endCall_debug (s : State) : (endCall s).debug = s.debug := rfl
@[simp] theorem endCall_cmd (s : State) : (endCall s).cmd = s.cmd := rfl
@[simp] theorem endCall_seq (s : State) : (endCall s).seq = s.seq := rfl
@[simp] theorem endCall_k (s : State) : (endCall s).k = s.k := rfl
@[simp] theorem endCall_outbuf (s : State) : (endCall s).outbuf = s.outbuf := rfl
@[simp] theorem endCall_inbuf (s : State) : (endCall s).inbuf = s.inbuf := rfl
@[simp] theorem endCall_res (s : State) : (endCall s).res = s.res := rfl
@[simp] theorem endCall_refused (s : State) : (endCall s).refused = s.refused := rfl
@[simp] theorem endCall_hist (s : State) : (endCall s).hist = s.hist := rfl
@[simp] theorem endCall_call (s : State) : (endCall s).call = none := rfl
@[simp] theorem endCall_presented (s : State) : (endCall s).presented = s.presented := rfl
@[simp] theorem endCall_replies (s : State) : (endCall s).replies = s.replies := rfl
@[simp] theorem endCall_reason (s : State) : (endCall s).reason = s.reason := rfl
@[simp] theorem endCall_fresh (s : State) : (endCall s).fresh = s.fresh := rfl

@[simp] theorem setReplies_isOpen (rs : List Reply) (s : State) : (setReplies rs s).isOpen = s.isOpen := rfl
@[simp] theorem setReplies_ch (rs : List Reply) (s : State) : (setReplies rs s).ch = s.ch := rfl
@[simp] theorem setReplies_xcfg (rs : List Reply) (s : State) : (setReplies rs s).xcfg = s.xcfg := rfl
@[simp] theorem setReplies_phase (rs : List Reply) (s : State) : (setReplies rs s).phase = s.phase := rfl
@[simp] theorem setReplies_unusable (rs : List Reply) (s : State) : (setReplies rs s).unusable = s.unusable := rfl
@[simp] theorem setReplies_debug (rs : List Reply) (s : State) : (setReplies rs s).debug = s.debug := rfl
@[simp] theorem setReplies_cmd (rs : List Reply) (s : State) : (setReplies rs s).cmd = s.cmd := rfl
@[simp] theorem setReplies_seq (rs : List Reply) (s : State) : (setReplies rs s).seq = s.seq := rfl
@[simp] theorem setReplies_k (rs : List Reply) (s : State) : (setReplies rs s).k = s.k := rfl
@[simp] theorem setReplies_outbuf (rs : List Reply) (s : State) : (setReplies rs s).outbuf = s.outbuf := rfl
@[simp] theorem setReplies_inbuf (rs : List Reply) (s : State) : (setReplies rs s).inbuf = s.inbuf := rfl
@[simp] theorem setReplies_res (rs : List Reply) (s : State) : (setReplies rs s).res = s.res := rfl
@[simp] theorem setReplies_refused (rs : List Reply) (s : State) : (setReplies rs s).refused = s.refused := rfl
@[simp] theorem setReplies_hist (rs : List Reply) (s : State) : (setReplies rs s).hist = s.hist := rfl
@[simp] theorem setReplies_call (rs : List Reply) (s : State) : (setReplies rs s).call = s.call := rfl
@[simp] theorem setReplies_presented (rs : List Reply) (s : State) : (setReplies rs s).presented = s.presented := rfl
@[simp] theorem setReplies_replies (rs : List Reply) (s : State) : (setReplies rs s).replies = rs := rfl
@[simp] theorem setReplies_reason (rs : List Reply) (s : State) : (setReplies rs s).reason = s.reason := rfl
@[simp] theorem setReplies_fresh (rs : List Reply) (s : State) : (setReplies rs s).fresh = s.fresh := rfl

@[simp] theorem setSeq_isOpen (q : Seq) (s : State) : (setSeq q s).isOpen = s.isOpen := rfl
@[simp] theorem setSeq_ch (q : Seq) (s : State) : (setSeq q s).ch = s.ch := rfl
@[simp] theorem setSeq_xcfg (q : Seq) (s : State) : (setSeq q s).xcfg = s.xcfg := rfl
@[simp] theorem setSeq_phase (q : Seq) (s : State) : (setSeq q s).phase = s.phase := rfl
@[simp] theorem setSeq_unusable (q : Seq) (s : State) : (setSeq q s).unusable = s.unusable := rfl
@[simp] theorem setSeq_debug (q : Seq) (s : State) : (setSeq q s).debug = s.debug := rfl
@[simp] theorem setSeq_cmd (q : Seq) (s : State) : (setSeq q s).cmd = s.cmd := rfl
@[simp] theorem setSeq_seq (q : Seq) (s : State) : (setSeq q s).seq = q := rfl
@[simp] theorem setSeq_k (q : Seq) (s : State) : (setSeq q s).k = s.k := rfl
@[simp] theorem setSeq_outbuf (q : Seq) (s : State) : (setSeq q s).outbuf = s.outbuf := rfl
@[simp] theorem setSeq_inbuf (q : Seq) (s : State) : (setSeq q s).inbuf = s.inbuf := rfl
@[simp] theorem setSeq_res (q : Seq) (s : State) : (setSeq q s).res = s.res := rfl
@[simp] theorem setSeq_refused (q : Seq) (s : State) : (setSeq q s).refused = s.refused := rfl
@[simp] theorem setSeq_hist (q : Seq) (s : State) : (setSeq q s).hist = s.hist := rfl
@[simp] theorem setSeq_call (q : Seq) (s : State) : (setSeq q s).call = s.call := rfl
@[simp] theorem setSeq_presented (q : Seq) (s : State) : (setSeq q s).presented = s.presented := rfl
@[simp] theorem setSeq_replies (q : Seq) (s : State) : (setSeq q s).replies = s.replies := rfl
@[simp] theorem setSeq_reason (q : Seq) (s : State) : (setSeq q s).reason = s.reason := rfl
@[simp] theorem setSeq_fresh (q : Seq) (s : State) : (setSeq q s).fresh = s.fresh := rfl

@[simp] theorem setPhase_isOpen (p : Phase) (s : State) : (setPhase p s).isOpen = s.isOpen := rfl
@[simp] theorem setPhase_ch (p : Phase) (s : State) : (setPhase p s).ch = s.ch := rfl
@[simp] theorem setPhase_xcfg (p : Phase) (s : State) : (setPhase p s).xcfg = s.xcfg := rfl
@[simp] theorem setPhase_phase (p : Phase) (s : State) : (setPhase p s).phase = p := rfl
@[simp] theorem setPhase_unusable (p : Phase) (s : State) : (setPhase p s).unusable = s.unusable := rfl
@[simp] theorem setPhase_debug (p : Phase) (s : State) : (setPhase p s).debug = s.debug := rfl
@[simp] theorem setPhase_cmd (p : Phase) (s : State) : (setPhase p s).cmd = s.cmd := rfl
@[simp] theorem setPhase_seq (p : Phase) (s : State) : (setPhase p s).seq = s.seq := rfl
@[simp] theorem setPhase_k (p : Phase) (s : State) : (setPhase p s).k = s.k := rfl
@[simp] theorem setPhase_outbuf (p : Phase) (s : State) : (setPhase p s).outbuf = s.outbuf := rfl
@[simp] theorem setPhase_inbuf (p : Phase) (s : State) : (setPhase p s).inbuf = s.inbuf := rfl
@[simp] theorem setPhase_res (p : Phase) (s : State) : (setPhase p s).res = s.res := rfl
@[simp] theorem setPhase_refused (p : Phase) (s : State) : (setPhase p s).refused = s.refused := rfl
@[simp] theorem setPhase_hist (p : Phase) (s : State) : (setPhase p s).hist = s.hist := rfl
@[simp] theorem setPhase_call (p : Phase) (s : State) : (setPhase p s).call = s.call := rfl
@[simp] theorem setPhase_presented (p : Phase) (s : State) : (setPhase p s).presented = s.presented := rfl
@[simp] theorem setPhase_replies (p : Phase) (s : State) : (setPhase p s).replies = s.replies := rfl
@[simp] theorem setPhase_reason (p : Phase) (s : State) : (setPhase p s).reason = s.reason := rfl
@[simp] theorem setPhase_fresh (p : Phase) (s : State) : (setPhase p s).fresh = s.fresh := rfl

@[simp] theorem setChannel_isOpen (c : Channel) (s : State) : (setChannel c s).isOpen = s.isOpen := rfl
@[simp] theorem setChannel_ch (c : Channel) (s : State) : (setChannel c s).ch = some c := rfl
@[simp] theorem setChannel_xcfg (c : Channel) (s : State) : (setChannel c s).xcfg = s.xcfg := rfl
@[simp] theorem setChannel_phase (c : Channel) (s : State) : (setChannel c s).phase = s.phase := rfl
@[simp] theorem setChannel_unusable (c : Channel) (s : State) : (setChannel c s).unusable = s.unusable := rfl
@[simp] theorem setChannel_debug (c : Channel) (s : State) : (setChannel c s).debug = s.debug := rfl
@[simp] theorem setChannel_cmd (c : Channel) (s : State) : (setChannel c s).cmd = s.cmd := rfl
@[simp] theorem setChannel_seq (c : Channel) (s : State) : (setChannel c s).seq = s.seq := rfl
@[simp] theorem setChannel_k (c : Channel) (s : State) : (setChannel c s).k = s.k := rfl
@[simp] theorem setChannel_outbuf (c : Channel) (s : State) : (setChannel c s).outbuf = s.outbuf := rfl
@[simp] theorem setChannel_inbuf (c : Channel) (s : State) : (setChannel c s).inbuf = s.inbuf := rfl
@[simp] theorem setChannel_res (c : Channel) (s : State) : (setChannel c s).res = s.res := rfl
@[simp] theorem setChannel_refused (c : Channel) (s : State) : (setChannel c s).refused = s.refused := rfl
@[simp] theorem setChannel_hist (c : Channel) (s : State) : (setChannel c s).hist = s.hist := rfl
@[simp] theorem setChannel_call (c : Channel) (s : State) : (setChannel c s).call = s.call := rfl
@[simp] theorem setChannel_presented (c : Channel) (s : State) : (setChannel c s).presented = s.presented := rfl
@[simp] theorem setChannel_replies (c : Channel) (s : State) : (setChannel c s).replies = s.replies := rfl
@[simp] theorem setChannel_reason (c : Channel) (s : State) : (setChannel c s).reason = s.reason := rfl
@[simp] theorem setChannel_fresh (c : Channel) (s : State) : (setChannel c s).fresh = s.fresh := rfl

@[simp] theorem setDebug_isOpen (b : Bool) (s : State) : (setDebug b s).isOpen = s.isOpen := rfl
@[simp] theorem setDebug_ch (b : Bool) (s : State) : (setDebug b s).ch = s.ch := rfl
@[simp] theorem setDebug_xcfg (b : Bool) (s : State) : (setDebug b s).xcfg = s.xcfg := rfl
@[simp] theorem setDebug_phase (b : Bool) (s : State) : (setDebug b s).phase = s.phase := rfl
@[simp] theorem setDebug_unusable (b : Bool) (s : State) : (setDebug b s).unusable = s.unusable := rfl
@[simp] theorem setDebug_debug (b : Bool) (s : State) : (setDebug b s).debug = b := rfl
@[simp] theorem setDebug_cmd (b : Bool) (s : State) : (setDebug b s).cmd = s.cmd := rfl
@[simp] theorem setDebug_seq (b : Bool) (s : State) : (setDebug b s).seq = s.seq := rfl
@[simp] theorem setDebug_k (b : Bool) (s : State) : (setDebug b s).k = s.k := rfl
@[simp] theorem setDebug_outbuf (b : Bool) (s : State) : (setDebug b s).outbuf = s.outbuf := rfl
@[simp] theorem setDebug_inbuf (b : Bool) (s : State) : (setDebug b s).inbuf = s.inbuf := rfl
@[simp] theorem setDebug_res (b : Bool) (s : State) : (setDebug b s).res = s.res := rfl
@[simp] theorem setDebug_refused (b : Bool) (s : State) : (setDebug b s).refused = s.refused := rfl
@[simp] theorem setDebug_hist (b : Bool) (s : State) : (setDebug b s).hist = s.hist := rfl
@[simp] theorem setDebug_call (b : Bool) (s : State) : (setDebug b s).call = s.call := rfl
@[simp] theorem setDebug_presented (b : Bool) (s : State) : (setDebug b s).presented = s.presented := rfl
@[simp] theorem setDebug_replies (b : Bool) (s : State) : (setDebug b s).replies = s.replies := rfl
@[simp] theorem setDebug_reason (b : Bool) (s : State) : (setDebug b s).reason = s.reason := rfl
@[simp] theorem setDebug_fresh (b : Bool) (s : State) : (setDebug b s).fresh = s.fresh := rfl

@[simp] theorem freshHandle_isOpen (s : State) : (freshHandle s).isOpen = true := rfl
@[simp] theorem freshHandle_ch (s : State) : (freshHandle s).ch = s.ch := rfl
@[simp] theorem freshHandle_xcfg (s : State) : (freshHandle s).xcfg = some xcfgConst := rfl
@[simp] theorem freshHandle_phase (s : State) : (freshHandle s).phase = .uninitialized := rfl
@[simp] theorem freshHandle_unusable (s : State) : (freshHandle s).unusable = false := rfl
@[simp] theorem freshHandle_debug (s : State) : (freshHandle s).debug = false := rfl
@[simp] theorem freshHandle_cmd (s : State) : (freshHandle s).cmd = s.cmd := rfl
@[simp] theorem freshHandle_seq (s : State) : (freshHandle s).seq = s.seq := rfl
@[simp] theorem freshHandle_k (s : State) : (freshHandle s).k = 0 := rfl
@[simp] theorem freshHandle_outbuf (s : State) : (freshHandle s).outbuf = s.outbuf := rfl
@[simp] theorem freshHandle_inbuf (s : State) : (freshHandle s).inbuf = s.inbuf := rfl
@[simp] theorem freshHandle_res (s : State) : (freshHandle s).res = s.res := rfl
@[simp] theorem freshHandle_refused (s : State) : (freshHandle s).refused = s.refused := rfl
@[simp] theorem freshHandle_hist (s : State) : (freshHandle s).hist = s.hist := rfl
@[simp] theorem freshHandle_call (s : State) : (freshHandle s).call = s.call := rfl
@[simp] theorem freshHandle_presented (s : State) : (freshHandle s).presented = s.presented := rfl
@[simp] theorem freshHandle_replies (s : State) : (freshHandle s).replies = s.replies := rfl
@[simp] theorem freshHandle_reason (s : State) : (freshHandle s).reason = s.reason := rfl
@[simp] theorem freshHandle_fresh (s : State) : (freshHandle s).fresh = s.fresh := rfl

@[simp] theorem receiveNothing_isOpen (s : State) : (receiveNothing s).isOpen = s.isOpen := rfl
@[simp] theorem receiveNothing_ch (s : State) : (receiveNothing s).ch = s.ch := rfl
@[simp] theorem receiveNothing_xcfg (s : State) : (receiveNothing s).xcfg = s.xcfg := rfl
@[simp] theorem receiveNothing_phase (s : State) : (receiveNothing s).phase = s.phase := rfl
@[simp] theorem receiveNothing_unusable (s : State) : (receiveNothing s).unusable = s.unusable := rfl
@[simp] theorem receiveNothing_debug (s : State) : (receiveNothing s).debug = s.debug := rfl
@[simp] theorem receiveNothing_cmd (s : State) : (receiveNothing s).cmd = s.cmd := rfl
@[simp] theorem receiveNothing_seq (s : State) : (receiveNothing s).seq = s.seq := rfl
@[simp] theorem receiveNothing_k (s : State) : (receiveNothing s).k = s.k := rfl
@[simp] theorem receiveNothing_outbuf (s : State) : (receiveNothing s).outbuf = s.outbuf := rfl
@[simp] theorem receiveNothing_inbuf (s : State) : (receiveNothing s).inbuf = [] := rfl
@[simp] theorem receiveNothing_res (s : State) : (receiveNothing s).res = s.res := rfl
@[simp] theorem receiveNothing_refused (s : State) : (receiveNothing s).refused = s.refused := rfl
@[simp] theorem receiveNothing_hist (s : State) : (receiveNothing s).hist = s.hist := rfl
@[simp] theorem receiveNothing_call (s : State) : (receiveNothing s).call = s.call := rfl
@[simp] theorem receiveNothing_presented (s : State) : (receiveNothing s).presented = s.presented := rfl
@[simp] theorem receiveNothing_replies (s : State) : (receiveNothing s).replies = s.replies := rfl
@[simp] theorem receiveNothing_reason (s : State) : (receiveNothing s).reason = s.reason := rfl
@[simp] theorem receiveNothing_fresh (s : State) : (receiveNothing s).fresh = s.fresh := rfl

end Sys2Proof.Machine
end

