-- ==== Sys2Proof/Laws/Ops.lean ====
section
/-! SUPPORT. What the shared operations do, said once: admission, the end of a command, the run of a transport call's answers,
the address contract and the two validations. -/

namespace Sys2Proof.Machine

/-! ### Admission -/

theorem admission_ready {s : State} (h : Ready s) {c : Instr} (hc : ∀ bus cs, c ≠ .openCh bus cs) : admission c s = none := by
  obtain ⟨ho, hu, hn⟩ := h
  cases c <;> simp_all [admission, isBusy]

theorem admission_open {s : State} (h : NoHandle s) (bus cs : Byte) : admission (.openCh bus cs) s = none := by
  obtain ⟨ho, hu, hn⟩ := h
  simp_all [admission, isBusy]

theorem admission_close {s : State} (ho : s.isOpen = true) (hn : s.cmd = none) : admission .closeCh s = none := by
  simp_all [admission, isBusy]

theorem command_admitted {c : Instr} {start : State → State} {s : State} (h : admission c s = none) :
    command c start s = .next (run (start (begin c s))) := by
  simp [command, h]

theorem command_refused {c : Instr} {start : State → State} {s : State} {r : RefuseReason} (h : admission c s = some r) :
    command c start s = .next (refuse r s) := by
  simp [command, h]

/-- A presented command always has a next state: it is refused, or it runs. -/
theorem command_cases {c : Instr} {start : State → State} {s t : State} (h : command c start s = .next t) :
    (∃ r, admission c s = some r ∧ t = refuse r s) ∨ (admission c s = none ∧ t = run (start (begin c s))) := by
  unfold command at h
  split at h <;> simp_all

/-! ### Running -/

@[simp] theorem drain_noCall {s : State} (h : s.call = none) (rs : List Reply) : drain rs s = setReplies rs s := by
  cases rs <;> simp [drain, h]

@[simp] theorem drain_nil (s : State) : drain [] s = setReplies [] s := rfl

@[simp] theorem drain_pending (s : State) (rs : List Reply) :
    drain (.pending :: rs) s = setReplies (.pending :: rs) s := by
  simp only [drain]
  split <;> simp_all

theorem drain_answer {s : State} {c : Pending} (h : s.call = some c) (a : Answer) (rs : List Reply) :
    drain (.answer a :: rs) s = drain rs (returned c a s) := by
  simp [drain, h]

/-- A property every return of the call in progress keeps is kept by `drain`, if writing `replies` keeps it. -/
theorem drain_induction {P : State → Prop} (hr : ∀ s rs, P s → P (setReplies rs s))
    (hs : ∀ s c a, P s → s.call = some c → P (returned c a s)) :
    ∀ (rs : List Reply) (s : State), P s → P (drain rs s) := by
  intro rs
  induction rs with
  | nil => exact fun s h => hr s [] h
  | cons r rs ih =>
    intro s h
    cases hc : s.call with
    | none => rw [drain_noCall hc]; exact hr s _ h
    | some c =>
      cases r with
      | pending => rw [drain_pending]; exact hr s _ h
      | answer a => rw [drain_answer hc]; exact ih _ (hs s c a h hc)

/-! ### The address contract -/

theorem isIllegalAddr_eq (a : Byte) : isIllegalAddr a = a.getLsbD 7 := by
  revert a; decide

theorem isIllegalAddr_setWidth (a : Addr7) : isIllegalAddr (a.setWidth 8) = false := by
  revert a; decide

theorem firstIllegal_none {as : List Byte} (h : ∀ a ∈ as, isIllegalAddr a = false) (i : Nat) : firstIllegal i as = none := by
  induction as generalizing i with
  | nil => rfl
  | cons a as ih =>
    simp only [List.forall_mem_cons] at h
    simp [firstIllegal, h.1, ih h.2]

theorem firstIllegal_append {before : List Byte} (h : ∀ a ∈ before, isIllegalAddr a = false) {a : Byte}
    (ha : isIllegalAddr a = true) (after : List Byte) (i : Nat) :
    firstIllegal i (before ++ a :: after) = some (i + before.length, a) := by
  induction before generalizing i with
  | nil => simp [firstIllegal, ha]
  | cons b bs ih =>
    simp only [List.forall_mem_cons] at h
    simp only [List.cons_append, firstIllegal, h.1, Bool.false_eq_true, if_false, ih h.2, List.length_cons]
    congr 2; omega

/-- The tables' addresses are 7 bits wide, so the contract check of the stages `S_B1` and `S_B2` never fails (R7). -/
theorem tablePairs_legal {n : Nat} (t : Vector (Addr7 × Byte) n) : ∀ a ∈ (tablePairs t).map Prod.fst, isIllegalAddr a = false := by
  simp only [tablePairs, List.map_map, List.mem_map, Function.comp]
  rintro a ⟨e, -, rfl⟩
  exact isIllegalAddr_setWidth e.1

theorem tablePairs_length {n : Nat} (t : Vector (Addr7 × Byte) n) : (tablePairs t).length = n := by
  simp [tablePairs]

theorem startBatchRead_legal {addrs : List Byte} (h : ∀ a ∈ addrs, isIllegalAddr a = false) (s : State) :
    startBatchRead addrs s = issueBatch (readFrames addrs) s := by
  simp [startBatchRead, firstIllegal_none h]

theorem startBatchWrite_legal {pairs : List (Byte × Byte)} (h : ∀ a ∈ pairs.map Prod.fst, isIllegalAddr a = false) (s : State) :
    startBatchWrite pairs s = issueBatch (writeFrames pairs) s := by
  simp [startBatchWrite, firstIllegal_none h]

theorem startBatchWrite_table {n : Nat} (t : Vector (Addr7 × Byte) n) (s : State) :
    startBatchWrite (tablePairs t) s = issueBatch (writeFrames (tablePairs t)) s :=
  startBatchWrite_legal (tablePairs_legal t) s

@[simp] theorem readFrames_length (addrs : List Byte) : (readFrames addrs).length = addrs.length := by simp [readFrames]

@[simp] theorem writeFrames_length (pairs : List (Byte × Byte)) : (writeFrames pairs).length = pairs.length := by
  simp [writeFrames]

/-! ### Validation -/

theorem validateReadFrom_cons_ok {f : Frame} (h : f.b0 = handshake) (k : Nat) (fs : List Frame) :
    validateReadFrom k (f :: fs) = (validateReadFrom (k + 1) fs).map (f.b1 :: ·) := by
  simp only [validateReadFrom, h, ne_eq, not_true, if_false]
  cases validateReadFrom (k + 1) fs <;> rfl

theorem validateReadFrom_cons_bad {f : Frame} (h : f.b0 ≠ handshake) (k : Nat) (fs : List Frame) :
    validateReadFrom k (f :: fs) = .error (.unexpectedHandshake k 0 f.b0) := by
  simp [validateReadFrom, h]

/-- The only error a read validation reports is `UnexpectedHandshake`, at an index not before its start. -/
theorem validateReadFrom_error {k : Nat} {fs : List Frame} {e : ErrorRec} (h : validateReadFrom k fs = .error e) :
    ∃ j b, e = .unexpectedHandshake (k + j) 0 b := by
  induction fs generalizing k e with
  | nil => simp [validateReadFrom] at h
  | cons f fs ih =>
    by_cases hf : f.b0 = handshake
    · rw [validateReadFrom_cons_ok hf] at h
      cases hv : validateReadFrom (k + 1) fs with
      | ok vals => simp [hv, Except.map] at h
      | error e' =>
        obtain ⟨j, b, rfl⟩ := ih hv
        refine ⟨j + 1, b, ?_⟩
        simp only [hv, Except.map, Except.error.injEq] at h
        rw [← h]; congr 1; omega
    · rw [validateReadFrom_cons_bad hf] at h
      exact ⟨0, f.b0, by simpa using h.symm⟩

theorem validateReadFrom_length {k : Nat} {fs : List Frame} {vals : List Byte} (h : validateReadFrom k fs = .ok vals) :
    vals.length = fs.length := by
  induction fs generalizing k vals with
  | nil => simp_all [validateReadFrom]
  | cons f fs ih =>
    by_cases hf : f.b0 = handshake
    · rw [validateReadFrom_cons_ok hf] at h
      cases hv : validateReadFrom (k + 1) fs with
      | error e' => simp [hv, Except.map] at h
      | ok vs =>
        simp only [hv, Except.map, Except.ok.injEq] at h
        simp [← h, ih hv]
    · simp [validateReadFrom_cons_bad hf] at h

/-- The only error a write validation reports is `UnexpectedHandshake`. -/
theorem validateWriteFrom_error {check1 : Bool} {k : Nat} {fs : List Frame} {e : ErrorRec}
    (h : validateWriteFrom check1 k fs = .error e) : ∃ j b got, e = .unexpectedHandshake (k + j) b got := by
  induction fs generalizing k with
  | nil => simp [validateWriteFrom] at h
  | cons f fs ih =>
    simp only [validateWriteFrom] at h
    split at h
    · exact ⟨0, 0, f.b0, by simpa using h.symm⟩
    · split at h
      · exact ⟨0, 1, f.b1, by simpa using h.symm⟩
      · obtain ⟨j, b, got, rfl⟩ := ih h
        exact ⟨j + 1, b, got, by congr 1; omega⟩

/-! ### The end of a command -/

/-- A command begun at `s` that returns a value has ended, with the events appended so far. -/
theorem returnValue_ends {s u : State} {v : Value} {events : List Event} {rest : List Reply}
    (hh : u.hist = s.hist ++ events) (hc : SameCaller s u) :
    Ends s (setReplies rest (returnValue v u)) (.ok v) events rest :=
  ⟨⟨rfl, rfl, rfl⟩, rfl, hh, rfl, ⟨hc.presented, hc.refused, hc.reason⟩⟩

/-- A command begun at `s` that raises an error has ended, with the events appended so far. -/
theorem raiseAccess_ends {s u : State} {e : ErrorRec} {events : List Event} {rest : List Reply}
    (hh : u.hist = s.hist ++ events) (hc : SameCaller s u) :
    Ends s (setReplies rest (raiseAccess e u)) (.err e) events rest :=
  ⟨⟨rfl, rfl, rfl⟩, rfl, hh, rfl, ⟨hc.presented, hc.refused, hc.reason⟩⟩

theorem returnValue_sameHandle {s u : State} (h : SameHandle s u) (v : Value) (rest : List Reply) :
    SameHandle s (setReplies rest (returnValue v u)) :=
  ⟨⟨h.channel.isOpen, h.channel.ch, h.channel.xcfg⟩, h.phase, h.unusable, h.debug⟩

/-- An error of a command other than `INIT` leaves the handle as it was (R133). -/
theorem raiseAccess_sameHandle {s u : State} (h : SameHandle s u) (hc : u.cmd ≠ some .init) (e : ErrorRec) (rest : List Reply) :
    SameHandle s (setReplies rest (raiseAccess e u)) :=
  ⟨⟨h.channel.isOpen, h.channel.ch, h.channel.xcfg⟩, h.phase, by simp [hc, h.unusable], h.debug⟩

theorem SameCaller.refl (s : State) : SameCaller s s := ⟨rfl, rfl, rfl⟩

theorem SameHandle.refl (s : State) : SameHandle s s := ⟨⟨rfl, rfl, rfl⟩, rfl, rfl, rfl⟩

/-! ### One transport call -/

/-- An admitted command that calls `Xfer` and is answered goes on with the answer. -/
theorem command_xfer {c : Instr} {start : State → State} {s : State} {f : Frame} {a : Answer} {rest : List Reply}
    (h : admission c s = none) (hs : start (begin c s) = issueXfer f (begin c s)) (hr : s.replies = .answer a :: rest) :
    command c start s = .next (drain rest (returned .xfer a (issueXfer f (begin c s)))) := by
  have hr' : (issueXfer f (begin c s)).replies = .answer a :: rest := hr
  rw [command_admitted h, hs, run, hr', drain_answer (issueXfer_call _ _)]

/-- An admitted command that calls `XferBatch` and is answered goes on with the answer. -/
theorem command_batch {c : Instr} {start : State → State} {s : State} {outs : List Frame} {a : Answer} {rest : List Reply}
    (h : admission c s = none) (hs : start (begin c s) = issueBatch outs (begin c s)) (hr : s.replies = .answer a :: rest) :
    command c start s = .next (drain rest (returned .xferBatch a (issueBatch outs (begin c s)))) := by
  have hr' : (issueBatch outs (begin c s)).replies = .answer a :: rest := hr
  rw [command_admitted h, hs, run, hr', drain_answer (issueBatch_call _ _)]

/-- `Xfer` returns a frame: the event is appended and the frame delivered. -/
theorem returned_xfer_ok {s : State} {f r : Frame} (ho : s.outbuf = [f]) :
    returned .xfer (.ok [r]) s = xferDelivered r (record (.xfer f (some r)) (endCall s)) := by
  simp [returned, xferReturned, ho, answerOne]

/-- `Xfer` fails: the event is appended and the command ends (R90). -/
theorem returned_xfer_fail {s : State} {f : Frame} {a : Answer} (ho : s.outbuf = [f]) (ha : answerOne a = none) :
    returned .xfer a s =
      raiseAccess (.transportError .transfer) (receiveNothing (record (.xfer f none) (endCall s))) := by
  simp [returned, xferReturned, ho, ha]

/-- `XferBatch` returns its frames: the event is appended and the frames delivered. -/
theorem returned_batch_ok {s : State} {ins : List Frame} (hl : ins.length = s.outbuf.length) :
    returned .xferBatch (.ok ins) s =
      batchDelivered ins (record (.xferBatch s.outbuf (some ins)) (endCall s)) := by
  simp [returned, batchReturned, answerMany, hl]

/-- `XferBatch` fails: the event is appended and the command ends (R90). -/
theorem returned_batch_fail {s : State} {a : Answer} (ha : answerMany s.outbuf.length a = none) :
    returned .xferBatch a s =
      raiseAccess (.transportError .transferBatch)
        (receiveNothing (record (.xferBatch s.outbuf none) (endCall s))) := by
  simp [returned, batchReturned, ha]

/-! ### Which command a returned call goes on with -/

section

variable {s : State}

theorem xferDelivered_rdreg {a : Byte} (h : s.cmd = some (.rdreg a)) (r : Frame) : xferDelivered r s = rdregReturned r s := by
  simp only [xferDelivered, h]

theorem xferDelivered_wrreg {a v : Byte} (h : s.cmd = some (.wrreg a v)) (r : Frame) :
    xferDelivered r s = wrregReturned v r s := by
  simp only [xferDelivered, h]

theorem xferDelivered_por (h : s.cmd = some .init) (hq : s.seq = .por) (r : Frame) : xferDelivered r s = porReturned r s := by
  simp only [xferDelivered, initXferReturned, h, hq]

theorem xferDelivered_pid (h : s.cmd = some .init) (hq : s.seq = .pid) (r : Frame) : xferDelivered r s = pidReturned r s := by
  simp only [xferDelivered, initXferReturned, h, hq]

theorem xferDelivered_ipid (h : s.cmd = some .init) (hq : s.seq = .ipid) (r : Frame) : xferDelivered r s = ipidReturned r s := by
  simp only [xferDelivered, initXferReturned, h, hq]

theorem batchDelivered_rdregs {addrs : List Byte} (h : s.cmd = some (.rdregs addrs)) (ins : List Frame) :
    batchDelivered ins s = rdregsReturned ins s := by
  simp only [batchDelivered, h]

theorem batchDelivered_wrregs {pairs : List (Byte × Byte)} (h : s.cmd = some (.wrregs pairs)) (ins : List Frame) :
    batchDelivered ins s = wrregsReturned ins s := by
  simp only [batchDelivered, h]

theorem batchDelivered_rdsample (h : s.cmd = some .rdsample) (ins : List Frame) :
    batchDelivered ins s = rdsampleReturned ins s := by
  simp only [batchDelivered, h]

theorem batchDelivered_b1 (h : s.cmd = some .init) (hq : s.seq = .b1) (ins : List Frame) :
    batchDelivered ins s = b1Returned ins s := by
  simp only [batchDelivered, initBatchReturned, h, hq]

theorem batchDelivered_b2 (h : s.cmd = some .init) (hq : s.seq = .b2) (ins : List Frame) :
    batchDelivered ins s = b2Returned ins s := by
  simp only [batchDelivered, initBatchReturned, h, hq]

theorem handleCallReturned_open {bus cs : Byte} (h : s.cmd = some (.openCh bus cs)) (f : Byte → Byte → Answer → State → State)
    (a : Answer) : handleCallReturned f a s = f bus cs a s := by
  simp only [handleCallReturned, h]

theorem releaseReturned_open {bus cs : Byte} (h : s.cmd = some (.openCh bus cs)) : releaseReturned s = openReleased s := by
  simp only [releaseReturned, h]

theorem releaseReturned_close (h : s.cmd = some .closeCh) : releaseReturned s = closeReleased s := by
  simp only [releaseReturned, h]

theorem delayEnded_init (h : s.cmd = some .init) : delayEnded s = delayReturned s := by
  simp only [delayEnded, h]

end

end Sys2Proof.Machine
end

