-- ==== Sys2Proof/Laws/Kept.lean ====
section
/-! SUPPORT. The commands are made of the shared operations of Machine/Ops.lean and nothing else: a property of the state that
every shared operation keeps is kept when a call returns and when a command runs. -/

namespace Sys2Proof.Machine

/-- Every shared operation a running command is made of keeps `P`. -/
structure Kept (P : State → Prop) : Prop where
  record : ∀ e s, P s → P (record e s)
  receive : ∀ good ins s, P s → P (receive good ins s)
  receiveNothing : ∀ s, P s → P (receiveNothing s)
  endCall : ∀ s, P s → P (endCall s)
  issue : ∀ c s, P s → P (issue c s)
  issueXfer : ∀ f s, P s → P (issueXfer f s)
  issueBatch : ∀ outs s, P s → P (issueBatch outs s)
  setSeq : ∀ q s, P s → P (setSeq q s)
  setPhase : ∀ p s, P s → P (setPhase p s)
  setChannel : ∀ c s, P s → P (setChannel c s)
  freshHandle : ∀ s, P s → P (freshHandle s)
  dropHandle : ∀ s, P s → P (dropHandle s)
  finish : ∀ r s, P s → P (finish r s)
  raiseError : ∀ e s, P s → P (raiseError e s)
  loseFrames : ∀ s, P s → P (loseFrames s)
  loseBuffers : ∀ s, P s → P (loseBuffers s)
  setReplies : ∀ rs s, P s → P (setReplies rs s)

namespace Kept

variable {P : State → Prop}

/-- `TOpen` or `TConfigure` returns to `OPEN` only. -/
theorem handleCallReturned {f : Byte → Byte → Answer → State → State} (hf : ∀ bus cs a s, P s → P (f bus cs a s)) (a : Answer)
    {s : State} (hs : P s) : P (handleCallReturned f a s) := by
  unfold Machine.handleCallReturned
  generalize s.cmd = c
  cases c with
  | none => exact hs
  | some i =>
    cases i with
    | openCh bus cs => exact hf _ _ _ _ hs
    | _ => exact hs

variable (h : Kept P)

include h

theorem returnValue (v : Value) {s : State} (hs : P s) : P (returnValue v s) := h.loseBuffers _ (h.finish _ _ hs)

theorem raiseAccess (e : ErrorRec) {s : State} (hs : P s) : P (raiseAccess e s) := h.loseBuffers _ (h.raiseError _ _ hs)

theorem logIfDebug (item : LogItem) (v : Byte) {s : State} (hs : P s) : P (logIfDebug item v s) := by
  unfold Machine.logIfDebug
  split
  · exact h.record _ _ hs
  · exact hs

theorem startBatchRead (addrs : List Byte) {s : State} (hs : P s) : P (startBatchRead addrs s) := by
  unfold Machine.startBatchRead
  split
  · exact h.raiseAccess _ hs
  · exact h.issueBatch _ _ hs

theorem startBatchWrite (pairs : List (Byte × Byte)) {s : State} (hs : P s) : P (startBatchWrite pairs s) := by
  unfold Machine.startBatchWrite
  split
  · exact h.raiseAccess _ hs
  · exact h.issueBatch _ _ hs

theorem porReturned (r : Frame) {s : State} (hs : P s) : P (porReturned r s) := by
  have ht := h.receive (writeOk true) [r] s hs
  unfold Machine.porReturned; dsimp only
  split
  · exact h.raiseAccess _ ht
  · exact h.issueXfer _ _ (h.setSeq _ _ ht)

theorem pidReturned (r : Frame) {s : State} (hs : P s) : P (pidReturned r s) := by
  have ht := h.receive readOk [r] s hs
  unfold Machine.pidReturned; dsimp only
  split
  · exact h.raiseAccess _ ht
  · have hl := fun v => h.logIfDebug .productId v ht
    split
    · exact h.raiseAccess _ (hl _)
    · exact h.issueXfer _ _ (h.setSeq _ _ (hl _))

theorem ipidReturned (r : Frame) {s : State} (hs : P s) : P (ipidReturned r s) := by
  have ht := h.receive readOk [r] s hs
  unfold Machine.ipidReturned; dsimp only
  split
  · exact h.raiseAccess _ ht
  · have hl := fun v => h.logIfDebug .inverseProductId v ht
    split
    · exact h.raiseAccess _ (hl _)
    · exact h.startBatchWrite _ (h.setSeq _ _ (h.setPhase _ _ (hl _)))

theorem rdregReturned (r : Frame) {s : State} (hs : P s) : P (rdregReturned r s) := by
  have ht := h.receive readOk [r] s hs
  unfold Machine.rdregReturned; dsimp only
  split
  · exact h.raiseAccess _ ht
  · exact h.returnValue _ ht

theorem wrregReturned (v : Byte) (r : Frame) {s : State} (hs : P s) : P (wrregReturned v r s) := by
  have ht := h.receive (writeOk true) [r] s hs
  unfold Machine.wrregReturned; dsimp only
  split
  · exact h.raiseAccess _ ht
  · exact h.returnValue _ ht

theorem rdregsReturned (ins : List Frame) {s : State} (hs : P s) : P (rdregsReturned ins s) := by
  have ht := h.receive readOk ins s hs
  unfold Machine.rdregsReturned; dsimp only
  split
  · exact h.raiseAccess _ ht
  · exact h.returnValue _ ht

theorem wrregsReturned (ins : List Frame) {s : State} (hs : P s) : P (wrregsReturned ins s) := by
  have ht := h.receive (writeOk wbCheckByte1) ins s hs
  unfold Machine.wrregsReturned; dsimp only
  split
  · exact h.raiseAccess _ ht
  · exact h.returnValue _ ht

theorem rdsampleReturned (ins : List Frame) {s : State} (hs : P s) : P (rdsampleReturned ins s) := by
  have ht := h.receive readOk ins s hs
  unfold Machine.rdsampleReturned; dsimp only
  split
  · exact h.raiseAccess _ ht
  · split
    · exact h.returnValue _ ht
    · exact ht

theorem b1Returned (ins : List Frame) {s : State} (hs : P s) : P (b1Returned ins s) := by
  have ht := h.receive (writeOk wbCheckByte1) ins s hs
  unfold Machine.b1Returned; dsimp only
  split
  · exact h.raiseAccess _ ht
  · exact h.issue _ _ (h.setSeq _ _ ht)

theorem b2Returned (ins : List Frame) {s : State} (hs : P s) : P (b2Returned ins s) := by
  have ht := h.receive (writeOk wbCheckByte1) ins s hs
  unfold Machine.b2Returned; dsimp only
  split
  · exact h.raiseAccess _ ht
  · exact h.returnValue _ (h.setPhase _ _ ht)

theorem initXferReturned (r : Frame) {s : State} (hs : P s) : P (initXferReturned r s) := by
  unfold Machine.initXferReturned
  generalize s.seq = q
  cases q with
  | por => exact h.porReturned r hs
  | pid => exact h.pidReturned r hs
  | ipid => exact h.ipidReturned r hs
  | _ => exact hs

theorem xferDelivered (r : Frame) {s : State} (hs : P s) : P (xferDelivered r s) := by
  unfold Machine.xferDelivered
  generalize s.cmd = c
  cases c with
  | none => exact hs
  | some i =>
    cases i with
    | rdreg a => exact h.rdregReturned r hs
    | wrreg a v => exact h.wrregReturned v r hs
    | init => exact h.initXferReturned r hs
    | _ => exact hs

theorem initBatchReturned (ins : List Frame) {s : State} (hs : P s) : P (initBatchReturned ins s) := by
  unfold Machine.initBatchReturned
  generalize s.seq = q
  cases q with
  | b1 => exact h.b1Returned ins hs
  | b2 => exact h.b2Returned ins hs
  | _ => exact hs

theorem batchDelivered (ins : List Frame) {s : State} (hs : P s) : P (batchDelivered ins s) := by
  unfold Machine.batchDelivered
  generalize s.cmd = c
  cases c with
  | none => exact hs
  | some i =>
    cases i with
    | rdregs addrs => exact h.rdregsReturned ins hs
    | wrregs pairs => exact h.wrregsReturned ins hs
    | rdsample => exact h.rdsampleReturned ins hs
    | init => exact h.initBatchReturned ins hs
    | _ => exact hs

theorem openReturned (bus cs : Byte) (a : Answer) {s : State} (hs : P s) : P (openReturned bus cs a s) := by
  unfold Machine.openReturned; dsimp only
  split
  · exact h.issue _ _ (h.setChannel _ _ (h.record _ _ hs))
  · exact h.raiseError _ _ (h.dropHandle _ (h.record _ _ hs))

theorem configureReturned (a : Answer) {s : State} (hs : P s) : P (configureReturned a s) := by
  unfold Machine.configureReturned; dsimp only
  split
  · exact h.finish _ _ (h.freshHandle _ (h.record _ _ hs))
  · exact h.issue _ _ (h.record _ _ hs)

theorem releaseReturned {s : State} (hs : P s) : P (releaseReturned s) := by
  unfold Machine.releaseReturned
  generalize s.cmd = c
  cases c with
  | none => exact hs
  | some i =>
    cases i with
    | openCh bus cs => exact h.raiseError _ _ (h.dropHandle _ (h.record _ _ hs))
    | closeCh => exact h.finish _ _ (h.loseFrames _ (h.dropHandle _ (h.record _ _ hs)))
    | _ => exact hs

theorem delayEnded {s : State} (hs : P s) : P (delayEnded s) := by
  unfold Machine.delayEnded
  generalize s.cmd = c
  cases c with
  | none => exact hs
  | some i =>
    cases i with
    | init => exact h.startBatchWrite _ (h.setSeq _ _ (h.record _ _ hs))
    | _ => exact hs

theorem xferReturned (a : Answer) {s : State} (hs : P s) : P (xferReturned a s) := by
  unfold Machine.xferReturned
  generalize s.outbuf = o
  cases o with
  | nil => exact hs
  | cons f fs =>
    dsimp only
    have ht := h.record (.xfer f (answerOne a)) s hs
    cases answerOne a with
    | none => exact h.raiseAccess _ (h.receiveNothing _ (h.record _ _ hs))
    | some r => exact h.xferDelivered r (h.record _ _ hs)

theorem batchReturned (a : Answer) {s : State} (hs : P s) : P (batchReturned a s) := by
  unfold Machine.batchReturned; dsimp only
  cases answerMany s.outbuf.length a with
  | none => exact h.raiseAccess _ (h.receiveNothing _ (h.record _ _ hs))
  | some ins => exact h.batchDelivered ins (h.record _ _ hs)

/-- A property every shared operation keeps is kept when a call returns. -/
theorem returned (c : Pending) (a : Answer) {s : State} (hs : P s) : P (returned c a s) := by
  have ht : P (Machine.endCall s) := h.endCall _ hs
  cases c with
  | tOpen => exact handleCallReturned (fun _ _ _ _ hs => h.openReturned _ _ _ hs) a ht
  | tConfigure => exact handleCallReturned (fun _ _ _ _ hs => h.configureReturned _ hs) a ht
  | tRelease => exact h.releaseReturned ht
  | xfer => exact h.xferReturned a ht
  | xferBatch => exact h.batchReturned a ht
  | delay => exact h.delayEnded ht

/-- A property every shared operation keeps is kept by a run. -/
theorem run {s : State} (hs : P s) : P (run s) :=
  drain_induction (fun s rs hs => h.setReplies rs s hs) (fun _ c a hs _ => h.returned c a hs) _ _ hs

end Kept

end Sys2Proof.Machine
end

