-- ==== Sys2Proof/Laws/PerInstr.lean ====
section
/-! SUPPORT. Statements about every instruction as syntax, one lemma per constructor: the length of its encoding is the total
length of the spec's table (spec/30_encoding.md R69, spec/00_scope.md R9). -/

namespace Sys2Proof.Laws.EncodedLength

/-- The encoding of an instruction has the length the table gives it. -/
def Statement (i : Instr) : Prop := (encode i).length = encodedLength i

theorem openCh (bus cs : Byte) : Statement (.openCh bus cs) := rfl
theorem closeCh : Statement .closeCh := rfl
theorem setdbg (d : Byte) : Statement (.setdbg d) := rfl
theorem rdreg (a : Byte) : Statement (.rdreg a) := rfl
theorem wrreg (a v : Byte) : Statement (.wrreg a v) := rfl

theorem rdregs (addrs : List Byte) : Statement (.rdregs addrs) := by
  simp only [Statement, encode, encodedLength, List.length_cons]; omega

theorem wrregs (pairs : List (Byte × Byte)) : Statement (.wrregs pairs) := by
  have h : (pairs.flatMap fun p => [p.1, p.2]).length = 2 * pairs.length := by
    induction pairs with
    | nil => rfl
    | cons p ps ih => simp only [List.flatMap_cons, List.length_append, List.length_cons, List.length_nil, ih]; omega
  simp only [Statement, encode, encodedLength, List.length_cons, h]; omega

theorem init : Statement .init := rfl
theorem rdsample : Statement .rdsample := rfl
theorem rdf (addr : Addr7) : Statement (.rdf addr) := rfl
theorem wrf (addr : Addr7) (val : Byte) : Statement (.wrf addr val) := rfl

end Sys2Proof.Laws.EncodedLength
end

