-- ==== Sys2Proof/Laws/Replies.lean ====
section
/-! SUPPORT. A command never looks ahead at the transport (spec/10_state.md R39): what a returned call does commutes with writing
the answers still to come, so a run depends on the list it consumes alone. -/

namespace Sys2Proof.Machine

theorem record_setReplies (e : Event) (rs : List Reply) (s : State) :
    record e (setReplies rs s) = setReplies rs (record e s) := rfl

theorem receive_setReplies (good : Frame → Bool) (ins : List Frame) (rs : List Reply) (s : State) :
    receive good ins (setReplies rs s) = setReplies rs (receive good ins s) := rfl

theorem setPhase_setReplies (p : Phase) (rs : List Reply) (s : State) :
    setPhase p (setReplies rs s) = setReplies rs (setPhase p s) := rfl

theorem setSeq_setReplies (q : Seq) (rs : List Reply) (s : State) :
    setSeq q (setReplies rs s) = setReplies rs (setSeq q s) := rfl

theorem endCall_setReplies (rs : List Reply) (s : State) : endCall (setReplies rs s) = setReplies rs (endCall s) := rfl

theorem logIfDebug_setReplies (item : LogItem) (v : Byte) (rs : List Reply) (s : State) :
    logIfDebug item v (setReplies rs s) = setReplies rs (logIfDebug item v s) := by
  unfold logIfDebug; split <;> split <;> first | rfl | simp_all

theorem startBatchWrite_setReplies (pairs : List (Byte × Byte)) (rs : List Reply) (s : State) :
    startBatchWrite pairs (setReplies rs s) = setReplies rs (startBatchWrite pairs s) := by
  unfold startBatchWrite; split <;> rfl

theorem pidReturned_setReplies (r : Frame) (rs : List Reply) (s : State) :
    pidReturned r (setReplies rs s) = setReplies rs (pidReturned r s) := by
  unfold pidReturned; dsimp only
  rw [receive_setReplies]
  split
  · rfl
  · rw [logIfDebug_setReplies]; split <;> rfl

theorem ipidReturned_setReplies (r : Frame) (rs : List Reply) (s : State) :
    ipidReturned r (setReplies rs s) = setReplies rs (ipidReturned r s) := by
  unfold ipidReturned; dsimp only
  rw [receive_setReplies]
  split
  · rfl
  · rw [logIfDebug_setReplies]
    split
    · rfl
    · rw [setPhase_setReplies]; unfold enterB1; rw [setSeq_setReplies, startBatchWrite_setReplies]

theorem initXferReturned_setReplies (r : Frame) (rs : List Reply) (s : State) :
    initXferReturned r (setReplies rs s) = setReplies rs (initXferReturned r s) := by
  unfold initXferReturned
  rw [setReplies_seq]
  generalize s.seq = q
  cases q with
  | por => dsimp only; unfold porReturned; dsimp only; split <;> rfl
  | pid => exact pidReturned_setReplies r rs s
  | ipid => exact ipidReturned_setReplies r rs s
  | _ => rfl

theorem xferDelivered_setReplies (r : Frame) (rs : List Reply) (s : State) :
    xferDelivered r (setReplies rs s) = setReplies rs (xferDelivered r s) := by
  unfold xferDelivered
  rw [setReplies_cmd]
  generalize s.cmd = c
  match c with
  | some (.rdreg a) => dsimp only; unfold rdregReturned; dsimp only; split <;> rfl
  | some (.wrreg a v) => dsimp only; unfold wrregReturned; dsimp only; split <;> rfl
  | some .init => exact initXferReturned_setReplies r rs s
  | none | some (.openCh _ _) | some .closeCh | some (.setdbg _) | some (.rdregs _) | some (.wrregs _) | some .rdsample
  | some (.rdf _) | some (.wrf _ _) => rfl

theorem initBatchReturned_setReplies (ins : List Frame) (rs : List Reply) (s : State) :
    initBatchReturned ins (setReplies rs s) = setReplies rs (initBatchReturned ins s) := by
  unfold initBatchReturned
  rw [setReplies_seq]
  generalize s.seq = q
  cases q with
  | b1 => dsimp only; unfold b1Returned; dsimp only; split <;> rfl
  | b2 => dsimp only; unfold b2Returned; dsimp only; split <;> rfl
  | _ => rfl

theorem batchDelivered_setReplies (ins : List Frame) (rs : List Reply) (s : State) :
    batchDelivered ins (setReplies rs s) = setReplies rs (batchDelivered ins s) := by
  unfold batchDelivered
  rw [setReplies_cmd]
  generalize s.cmd = c
  match c with
  | some (.rdregs addrs) => dsimp only; unfold rdregsReturned; dsimp only; split <;> rfl
  | some (.wrregs pairs) => dsimp only; unfold wrregsReturned; dsimp only; split <;> rfl
  | some .rdsample =>
    dsimp only; unfold rdsampleReturned; dsimp only
    split
    · rfl
    · split <;> rfl
  | some .init => exact initBatchReturned_setReplies ins rs s
  | none | some (.openCh _ _) | some .closeCh | some (.setdbg _) | some (.rdreg _) | some (.wrreg _ _) | some (.rdf _)
  | some (.wrf _ _) => rfl

/-- A returned call does not look at the answers after it. -/
theorem returned_setReplies (c : Pending) (a : Answer) (rs : List Reply) (s : State) :
    returned c a (setReplies rs s) = setReplies rs (returned c a s) := by
  unfold returned; dsimp only
  rw [endCall_setReplies]
  generalize endCall s = t
  cases c with
  | tOpen =>
    dsimp only; unfold handleCallReturned; rw [setReplies_cmd]; generalize t.cmd = c
    split
    · unfold openReturned; dsimp only; split <;> rfl
    · rfl
  | tConfigure =>
    dsimp only; unfold handleCallReturned; rw [setReplies_cmd]; generalize t.cmd = c
    split
    · unfold configureReturned; dsimp only; split <;> rfl
    · rfl
  | tRelease =>
    dsimp only; unfold releaseReturned; rw [setReplies_cmd]
    cases hc : t.cmd with
    | none => rfl
    | some c => cases c <;> rfl
  | xfer =>
    dsimp only; unfold xferReturned; rw [setReplies_outbuf]; generalize t.outbuf = o
    split
    · rfl
    · dsimp only
      split
      · rfl
      · rw [record_setReplies, xferDelivered_setReplies]
  | xferBatch =>
    dsimp only; unfold batchReturned; rw [setReplies_outbuf]; generalize t.outbuf = o
    dsimp only
    split
    · rfl
    · rw [record_setReplies, batchDelivered_setReplies]
  | delay =>
    dsimp only; unfold delayEnded; rw [setReplies_cmd]; generalize t.cmd = c
    split
    · unfold delayReturned enterB2; rw [record_setReplies, setSeq_setReplies, startBatchWrite_setReplies]
    · rfl

/-- A run depends on the answers it is given, not on those the state names. -/
theorem drain_setReplies (rs rs' : List Reply) (s : State) : drain rs (setReplies rs' s) = drain rs s := by
  induction rs generalizing s with
  | nil => rfl
  | cons r rs ih =>
    cases hc : s.call with
    | none =>
      have hc' : (setReplies rs' s).call = none := hc
      rw [drain_noCall hc, drain_noCall hc']; rfl
    | some c =>
      cases r with
      | pending => rw [drain_pending, drain_pending]; rfl
      | answer a =>
        have hc' : (setReplies rs' s).call = some c := hc
        rw [drain_answer hc, drain_answer hc', returned_setReplies, ih]

/-- Letting answers come back is a run of the state that names them. -/
theorem drain_eq_run (rs : List Reply) (s : State) : drain rs s = run (setReplies rs s) := by
  rw [run, setReplies_replies, drain_setReplies]

end Sys2Proof.Machine
end

