-- ==== Sys2Proof/Tests/Slice0.lean ====
section
/-! SUPPORT. Tests against the vectors of spec/95_test_vectors.md and the encodings of spec/30_encoding.md, and a witness for the
hypotheses of each statement of Certificates/Slice0/Obligations.lean: `witness_<statement>`. -/

namespace Sys2Proof.Tests

open Sys2Proof Sys2Proof.Machine

/-! ### Small states -/

/-- A frame of two handshake bytes. -/
def ff : Frame := ⟨0xFF#8, 0xFF#8⟩

/-- No handle; these answers come. -/
def closed (answers : List Reply) : State := { State.reset with replies := answers }

/-- A fresh handle; these answers come. -/
def opened (answers : List Reply) : State :=
  { State.reset with isOpen := true, ch := some ⟨0, 0⟩, xcfg := some xcfgConst, replies := answers }

/-- `RDREG 0x7F` waits in its transfer. -/
def reading (answers : List Reply) : State :=
  { opened answers with cmd := some (.rdreg 0x7F#8), seq := .run, call := some .xfer, outbuf := [⟨0x7F#8, 0x00#8⟩] }

/-- `INIT` waits in its reset write. -/
def resetting (answers : List Reply) : State :=
  { opened answers with cmd := some .init, seq := .por, call := some .xfer, outbuf := [⟨0xBA#8, 0x5A#8⟩] }

/-- `INIT` waits in its settling delay. -/
def inDelay (answers : List Reply) : State :=
  { opened answers with
    cmd := some .init, seq := .delay, call := some .delay, phase := .identified, outbuf := writeFrames batch1,
    hist := [.xferBatch (writeFrames batch1) (some (List.replicate 55 ff))] }

/-- The outcome register after an instruction. -/
def resAfter (i : Instr) (s : State) : Option (Option Result) := (nextOf (exec i s)).map (·.res)

/-- The history after an instruction. -/
def histAfter (i : Instr) (s : State) : Option (List Event) := (nextOf (exec i s)).map (·.hist)

/-- The reason of the last refusal after an instruction. -/
def reasonAfter (i : Instr) (s : State) : Option (Option RefuseReason) := (nextOf (exec i s)).map (·.reason)

/-! ### Well-formedness: the one check refuses an ill-formed batch (R70, R97) -/

theorem wellFormed_rdregs (addrs : List Byte) : (Instr.rdregs addrs).WellFormed ↔ addrs.length ≤ 255 := decide_eq_true_iff

theorem wellFormed_wrregs (pairs : List (Byte × Byte)) : (Instr.wrregs pairs).WellFormed ↔ pairs.length ≤ 255 :=
  decide_eq_true_iff

theorem test_rdregs_256_ill_formed : ¬ (Instr.rdregs (List.replicate 256 0x00#8)).WellFormed := by
  simp only [wellFormed_rdregs, List.length_replicate]; decide

theorem test_rdregs_255_well_formed : (Instr.rdregs (List.replicate 255 0x00#8)).WellFormed := by
  simp only [wellFormed_rdregs, List.length_replicate]; decide

theorem test_wrregs_256_ill_formed : ¬ (Instr.wrregs (List.replicate 256 (0x00#8, 0x00#8))).WellFormed := by
  simp only [wellFormed_wrregs, List.length_replicate]; decide

theorem test_wrregs_255_well_formed : (Instr.wrregs (List.replicate 255 (0x00#8, 0x00#8))).WellFormed := by
  simp only [wellFormed_wrregs, List.length_replicate]; decide

/-! ### Decoding: each instruction's word, bit by bit from R62, R63, R69 -/

theorem test_decode_open : decodeCmd [0b00000001#8, 0b00000010#8, 0b00000011#8] = .ok (.openCh 2 3, []) := by decide

theorem test_decode_close : decodeCmd [0b00000010#8] = .ok (.closeCh, []) := by decide

theorem test_decode_setdbg : decodeCmd [0b00000011#8, 0b00000010#8] = .ok (.setdbg 2, []) := by decide

theorem test_decode_rdreg : decodeCmd [0b00010000#8, 0b10000101#8] = .ok (.rdreg 0x85, []) := by decide

theorem test_decode_wrreg : decodeCmd [0b00010001#8, 0b00111010#8, 0b01011010#8] = .ok (.wrreg 0x3A 0x5A, []) := by decide

theorem test_decode_rdregs :
    decodeCmd [0b00010010#8, 0b00000011#8, 0b00000101#8, 0b00000011#8, 0b00000100#8] = .ok (.rdregs [5, 3, 4], []) := by
  decide

theorem test_decode_wrregs :
    decodeCmd [0b00010011#8, 0b00000010#8, 0b01111111#8, 0b00000000#8, 0b01100001#8, 0b10101101#8] =
      .ok (.wrregs [(0x7F, 0x00), (0x61, 0xAD)], []) := by
  decide

theorem test_decode_init : decodeCmd [0b00100000#8] = .ok (.init, []) := by decide

theorem test_decode_rdsample : decodeCmd [0b00100001#8] = .ok (.rdsample, []) := by decide

theorem test_decode_rdf : decodeFrame ⟨0b01011111#8, 0b00000000#8⟩ = .ok (.rdf 0x5F) := by decide

theorem test_decode_wrf : decodeFrame ⟨0b11111111#8, 0b11111111#8⟩ = .ok (.wrf 0x7F 0xFF) := by decide

/-- R75: a read request frame with a non-zero byte 1 is none. -/
theorem test_decode_undefined_frame : decodeFrame ⟨0b01011111#8, 0b00000001#8⟩ = .error .undefinedFrame := by decide

theorem test_decode_reserved :
    [0x00#8, 0x04#8, 0x14#8, 0x22#8, 0xFF#8].map (fun op => decodeCmd [op]) = List.replicate 5 (.error .reservedOpcode) := by
  decide

theorem test_decode_truncated :
    decodeCmd [] = .error .truncated ∧ decodeCmd [0x11#8, 0x3A#8] = .error .truncated ∧
      decodeCmd [0x12#8, 0x03#8, 0x01#8, 0x02#8] = .error .truncated := by
  decide

theorem test_table_words :
    decodeTableWord 8 0x01 = some (.openCh 0 0) ∧ decodeTableWord 8 0x13 = some (.wrregs []) ∧
      decodeTableWord 16 0x5F00 = some (.rdf 0x5F) ∧ decodeTableWord 16 0xE1AD = some (.wrf 0x61 0xAD) := by
  decide

/-! ### Assembly (R77) -/

theorem test_assemble_p1 :
    assemble "open 0, 0        ; 01 00 00\nINIT ; 20\n\nrdsample".toList =
      some [[0x01#8, 0x00#8, 0x00#8], [0x20#8], [0x21#8]] := by
  decide

theorem test_assemble_p3 :
    assembleLine "wrregs [(0x10, 0xaa), (17, 187)] ; 13 02 10 AA 11 BB".toList =
      some [[0x13#8, 0x02#8, 0x10#8, 0xAA#8, 0x11#8, 0xBB#8]] := by
  decide

theorem test_assemble_rejects : assembleLine "rdreg 256".toList = none ∧ assembleLine "rdregs [1,]".toList = none := by decide

/-! ### Validation (spec/95_test_vectors.md 2.3) -/

theorem test_validate_read :
    validateRead [⟨0xFF#8, 0x01#8⟩, ⟨0x7F#8, 0x02#8⟩, ⟨0x00#8, 0x03#8⟩] = .error (.unexpectedHandshake 1 0 0x7F) ∧
      validateRead [⟨0xFF#8, 0xFF#8⟩] = .ok [0xFF] := by
  decide

theorem test_validate_write :
    validateWrite true [ff, ⟨0xFF#8, 0xFE#8⟩, ⟨0xFE#8, 0xFF#8⟩] = .error (.unexpectedHandshake 1 1 0xFE) ∧
      validateWrite false [ff, ⟨0xFF#8, 0xFE#8⟩, ⟨0xFE#8, 0xFF#8⟩] = .error (.unexpectedHandshake 2 0 0xFE) := by
  decide

theorem test_status : status { opened [] with refused := true, phase := .configured, debug := true } = 0b01010101#8 := by decide

/-! ### OPEN, CLOSE, SETDBG (2.7) -/

theorem test_open_succeeds :
    histAfter (.openCh 0 0) (closed [.answer (.ok []), .answer (.ok [])]) =
      some [.opened 0 0 true, .configured ⟨8, 2000000, .msbFirst, .mode3⟩ true] := by
  decide

theorem test_open_configure_fails :
    histAfter (.openCh 0 0) (closed [.answer (.ok []), .answer .fail, .answer (.ok [])]) =
        some [.opened 0 0 true, .configured ⟨8, 2000000, .msbFirst, .mode3⟩ false, .released] ∧
      resAfter (.openCh 0 0) (closed [.answer (.ok []), .answer .fail, .answer (.ok [])]) =
        some (some (.err (.transportError .configure))) := by
  decide

theorem test_close_unusable :
    (nextOf (exec .closeCh { opened [.answer (.ok [])] with unusable := true })).map (fun t => (t.isOpen, t.unusable, t.hist)) =
      some (false, false, [.released]) := by
  decide

theorem test_setdbg_1 : (nextOf (exec (.setdbg 1) (opened []))).map (fun t => (t.debug, t.res, t.hist)) =
    some (true, some (.ok .unit), []) := by
  decide

theorem test_setdbg_2 : (nextOf (exec (.setdbg 2) (opened []))).map (fun t => (t.debug, t.res, t.refused, t.reason)) =
    some (false, none, true, some .reservedOperand) := by
  decide

/-! ### Register commands (W1 to W5, 2.4, 2.5) -/

theorem test_rdreg_data_ff : resAfter (.rdreg 0x7F) (opened [.answer (.ok [ff])]) = some (some (.ok (.byte 0xFF))) := by decide

theorem test_rdreg_w2 :
    resAfter (.rdreg 0x00) (opened [.answer (.ok [⟨0x00#8, 0x49#8⟩])]) =
      some (some (.err (.unexpectedHandshake 0 0 0x00))) := by
  decide

theorem test_wrreg_frame :
    histAfter (.wrreg 0x7F 0x00) (opened [.answer (.ok [ff])]) = some [.xfer ⟨0xFF#8, 0x00#8⟩ (some ff)] := by decide

theorem test_wrreg_byte_0_first :
    resAfter (.wrreg 0x3A 0x5A) (opened [.answer (.ok [⟨0xFE#8, 0x00#8⟩])]) =
      some (some (.err (.unexpectedHandshake 0 0 0xFE))) := by
  decide

theorem test_rdregs_w4 :
    resAfter (.rdregs [5, 3, 4]) (opened [.answer (.ok [⟨0xFF#8, 0xF0#8⟩, ⟨0xFF#8, 0x10#8⟩, ⟨0xFF#8, 0x00#8⟩])]) =
      some (some (.ok (.bytes [0xF0, 0x10, 0x00]))) := by
  decide

theorem test_rdregs_w5 :
    resAfter (.rdregs [0, 1, 2]) (opened [.answer (.ok [⟨0xFF#8, 0x11#8⟩, ⟨0xFF#8, 0x22#8⟩, ⟨0x7E#8, 0x33#8⟩])]) =
      some (some (.err (.unexpectedHandshake 2 0 0x7E))) := by
  decide

theorem test_wrregs_byte_1 :
    resAfter (.wrregs [(0x10, 1), (0x11, 2)]) (opened [.answer (.ok [ff, ⟨0xFF#8, 0x00#8⟩])]) =
      some (some (.err (.unexpectedHandshake 1 1 0x00))) := by
  decide

theorem test_wrregs_contract :
    (nextOf (exec (.wrregs [(0x10, 1), (0x91, 2)]) (opened [.answer (.ok [ff, ff])]))).map (fun t => (t.res, t.hist)) =
      some (some (.err (.callerContractViolation 1 0x91)), []) := by
  decide

/-! ### RDSAMPLE (W6, 2.6) -/

theorem test_rdsample_w6 :
    resAfter .rdsample (opened [.answer (.ok [⟨0xFF#8, 0x80#8⟩, ⟨0xFF#8, 0x10#8⟩, ⟨0xFF#8, 0x00#8⟩, ⟨0xFF#8, 0xF0#8⟩,
      ⟨0xFF#8, 0xFF#8⟩])]) = some (some (.ok (.sample ⟨BitVec.ofInt 16 16, BitVec.ofInt 16 (-16)⟩))) := by
  decide

theorem test_rdsample_latch_checked :
    resAfter .rdsample (opened [.answer (.ok [⟨0xFE#8, 0x00#8⟩, ff, ff, ff, ff])]) =
      some (some (.err (.unexpectedHandshake 0 0 0xFE))) := by
  decide

/-! ### Wire frames, as the next instruction after reset -/

theorem test_rdf_after_reset : (nextOf (step (State.reset.withFetchWord 16 0x5F00))).map (fun t => (t.call, t.outbuf)) =
    some (some .xfer, [⟨0x5F#8, 0x00#8⟩]) := by
  decide

theorem test_wrf_after_reset : (nextOf (step (State.reset.withFetchWord 16 0xBA5A))).map (fun t => (t.call, t.outbuf)) =
    some (some .xfer, [⟨0xBA#8, 0x5A#8⟩]) := by
  decide

/-! ### INIT (W7, 2.8).  The tables have no body, so the run past `S_IPID` is rewritten, not evaluated. -/

/-- The answers of a good bring-up. -/
def initAnswers : List Reply :=
  [.answer (.ok [ff]), .answer (.ok [⟨0xFF#8, 0x49#8⟩]), .answer (.ok [⟨0xFF#8, 0xB6#8⟩]),
    .answer (.ok (List.replicate 55 ff)), .answer .fail, .answer (.ok (List.replicate 14 ff))]

/-- The three exchanges before batch 1. -/
def identified : List Event :=
  [.xfer ⟨0xBA#8, 0x5A#8⟩ (some ff), .xfer ⟨0x00#8, 0x00#8⟩ (some ⟨0xFF#8, 0x49#8⟩),
    .xfer ⟨0x5F#8, 0x00#8⟩ (some ⟨0xFF#8, 0xB6#8⟩)]

/-- `INIT` enters `S_B1`. -/
def atB1 : State :=
  { opened initAnswers with
    cmd := some .init, seq := .b1, phase := .identified, inbuf := [⟨0xFF#8, 0xB6#8⟩], outbuf := [⟨0x5F#8, 0x00#8⟩],
    hist := identified }

/-- Batch 1 is being exchanged. -/
def b1Sent : State := issueBatch (writeFrames batch1) atB1

/-- The settling delay runs. -/
def settling : State :=
  enterDelay (receive (writeOk true) (List.replicate 55 ff)
    (record (.xferBatch (writeFrames batch1) (some (List.replicate 55 ff))) (endCall b1Sent)))

/-- Batch 2 is being exchanged. -/
def b2Sent : State := issueBatch (writeFrames batch2) (setSeq .b2 (record (.delayed 100) (endCall settling)))

/-- The device is configured. -/
def configured : State :=
  setReplies [] (returnValue .unit (setPhase .configured (receive (writeOk true) (List.replicate 14 ff)
    (record (.xferBatch (writeFrames batch2) (some (List.replicate 14 ff))) (endCall b2Sent)))))

theorem init_reaches_b1 :
    exec .init (opened initAnswers) =
      .next (drain [.answer (.ok (List.replicate 55 ff)), .answer .fail, .answer (.ok (List.replicate 14 ff))]
        (startBatchWrite batch1 atB1)) := rfl

theorem b1_returns : returned .xferBatch (.ok (List.replicate 55 ff)) b1Sent = settling := by
  rw [b1Sent, returned_batch_ok (by simp [batch1, tablePairs_length]), batchDelivered_b1 rfl rfl]
  rfl

theorem delay_returns : returned .delay .fail settling = b2Sent := by
  rw [b2Sent, batch2, ← startBatchWrite_table]
  rfl

theorem b2_returns : setReplies [] (returned .xferBatch (.ok (List.replicate 14 ff)) b2Sent) = configured := by
  rw [b2Sent, returned_batch_ok (by simp [batch2, tablePairs_length]), batchDelivered_b2 rfl rfl]
  rfl

theorem test_init_runs : exec .init (opened initAnswers) = .next configured := by
  rw [init_reaches_b1, show startBatchWrite batch1 atB1 = b1Sent from startBatchWrite_table _ _,
    drain_answer (c := .xferBatch) rfl, b1_returns, drain_answer (c := .delay) rfl, delay_returns,
    drain_answer (c := .xferBatch) rfl, drain_nil, b2_returns]

/-- W7 (a): the six events of R114. -/
theorem test_init_w7a :
    configured.res = some (.ok .unit) ∧ configured.phase = .configured ∧ configured.unusable = false ∧
      configured.hist = identified ++ [.xferBatch (writeFrames batch1) (some (List.replicate 55 ff)), .delayed 100,
        .xferBatch (writeFrames batch2) (some (List.replicate 14 ff))] := ⟨rfl, rfl, rfl, rfl⟩

/-- W7 (b): wrong product ID. -/
theorem test_init_w7b :
    (nextOf (exec .init (opened [.answer (.ok [ff]), .answer (.ok [⟨0xFF#8, 0x48#8⟩])]))).map
        (fun t => (t.res, t.phase, t.unusable, t.hist)) =
      some (some (.err (.identityMismatch 0x00 0x49 0x48)), .uninitialized, true,
        [.xfer ⟨0xBA#8, 0x5A#8⟩ (some ff), .xfer ⟨0x00#8, 0x00#8⟩ (some ⟨0xFF#8, 0x48#8⟩)]) := by
  decide

/-! ### Witnesses: states and operands that meet the hypotheses of each statement -/

theorem ready_opened (answers : List Reply) : Ready (opened answers) := ⟨rfl, rfl, rfl⟩

theorem witness_DecodeOfEncodeIsTheInstruction : (Instr.wrregs (List.replicate 255 (0x7F#8, 0xFF#8))).WellFormed := by
  simp only [wellFormed_wrregs, List.length_replicate]; decide

theorem witness_DecodedBytesAreTheEncoding :
    decodeCmd [0x12#8, 0x01#8, 0x7F#8, 0xAA#8] = .ok (.rdregs [0x7F], [0xAA#8]) ∧
      decodeFrame ⟨0x7F#8, 0x00#8⟩ = .ok (.rdf 0x7F) := by
  decide

theorem witness_RequestFramePatterns :
    ((0x7F#8 ++ 0x00#8 : BitVec 16) &&& 0x80FF#16 = 0x0000#16) ∧ ((0x80#8 ++ 0x00#8 : BitVec 16) &&& 0x8000#16 = 0x8000#16) ∧
      ((0x7F#8 ++ 0x01#8 : BitVec 16) &&& 0x80FF#16 ≠ 0x0000#16 ∧ (0x7F#8 ++ 0x01#8 : BitVec 16) &&& 0x8000#16 ≠ 0x8000#16) := by
  decide

theorem witness_ReservedOpcodesAreRefused :
    (∀ op ∈ [0x00#8, 0x04#8, 0x0F#8, 0x14#8, 0x1F#8, 0x22#8, 0xFF#8],
      op ∉ [0x01#8, 0x02#8, 0x03#8, 0x10#8, 0x11#8, 0x12#8, 0x13#8, 0x20#8, 0x21#8]) ∧
    CallersTurn { State.reset with presented := [[0xFF#8]] } [] ∧ CallersTurn { reading [] with presented := [[0xFF#8]] } [] ∧
    CallersTurn { reading [.pending, .answer .fail] with presented := [[0xFF#8]] } [.answer .fail] :=
  ⟨by decide, .inl ⟨rfl, rfl⟩, .inr ⟨⟨_, rfl⟩, ⟨.xfer, rfl⟩, .inl ⟨rfl, rfl⟩⟩, .inr ⟨⟨_, rfl⟩, ⟨.xfer, rfl⟩, .inr rfl⟩⟩

theorem witness_TruncatedCommandsAreRefused :
    (Instr.wrreg 0x3A 0x5A).WellFormed ∧ (Instr.wrreg 0x3A 0x5A).format = .cmd ∧
      encode (.wrreg 0x3A 0x5A) = [0x11#8, 0x3A#8] ++ [0x5A#8] ∧ encode .init = [] ++ [0x20#8] ∧
      CallersTurn { State.reset with presented := [[0x11#8, 0x3A#8]] } [] ∧
      CallersTurn { reading [] with presented := [[0x11#8, 0x3A#8]] } [] ∧
      CallersTurn { reading [.pending] with presented := [[0x11#8, 0x3A#8]] } [] :=
  ⟨rfl, rfl, rfl, rfl, .inl ⟨rfl, rfl⟩, .inr ⟨⟨_, rfl⟩, ⟨.xfer, rfl⟩, .inl ⟨rfl, rfl⟩⟩, .inr ⟨⟨_, rfl⟩, ⟨.xfer, rfl⟩, .inr rfl⟩⟩

theorem witness_AssembledLinesAreCommands :
    assembleLine "rdregs []".toList = some [[0x12#8, 0x00#8]] ∧ '\n' ∉ "init ; bring up".toList ∧
      ["close", "CLOSE", "Close"].map (fun m => m.toList.map lower) = List.replicate 3 "close".toList ∧
      "INIT".toList.map lower = "init".toList ∧ "RdSample".toList.map lower = "rdsample".toList ∧
      "SETDBG".toList.map lower = "setdbg".toList ∧ "RDREG".toList.map lower = "rdreg".toList ∧
      "Open".toList.map lower = "open".toList ∧ "WRREG".toList.map lower = "wrreg".toList ∧
      "RDREGS".toList.map lower = "rdregs".toList ∧ "WrRegs".toList.map lower = "wrregs".toList ∧
      operand "0x7F".toList = some 0x7F#8 ∧ operand "255".toList = some 0xFF#8 ∧
      ["0".toList, "0xff".toList].map operand = [0x00#8, 0xFF#8].map some := by
  decide

theorem witness_AssembledLinesAreCommands_empty : ([] : List (List Char)).map operand = ([] : List Byte).map some := rfl

theorem witness_StepRunsTheDecodedCommand :
    decodeCmd [0x20#8, 0x21#8] = .ok (.init, [0x21#8]) ∧ (opened []).cmd = none ∧
      ((reading [.pending]).cmd = some (.rdreg 0x7F) ∧ (reading [.pending]).call = some .xfer ∧
        (reading [.pending]).replies = .pending :: []) ∧
      ((reading []).cmd = some (.rdreg 0x7F) ∧ (reading []).call = some .xfer ∧ (reading []).replies = []) := by
  decide

theorem witness_StepRunsTheFrameInTransfer :
    (reading []).cmd ≠ none ∧ (reading []).outbuf = [⟨0x7F#8, 0x00#8⟩] ∧ decodeFrame ⟨0x7F#8, 0x00#8⟩ = .ok (.rdf 0x7F) ∧
      { reading [] with call := none }.call = none ∧ (reading [.answer .fail]).call = some .xfer ∧
      (reading [.answer .fail]).replies = .answer .fail :: [] := by
  decide

theorem witness_StepOnTheOtherTurns :
    ((inDelay [.answer .fail]).cmd = some .init ∧ (inDelay [.answer .fail]).call = some .delay ∧
      Pending.delay ≠ .xfer ∧ (inDelay [.answer .fail]).replies = .answer .fail :: []) ∧
    ((reading []).presented = [] ∧ (reading []).cmd = some (.rdreg 0x7F) ∧ (reading []).call = some .xfer ∧
      (reading []).replies = []) ∧
    (State.reset.presented = [] ∧ State.reset.cmd = none) :=
  ⟨⟨rfl, rfl, by decide, rfl⟩, ⟨rfl, rfl, rfl, rfl⟩, rfl, rfl⟩

theorem witness_ReadValidationReportsTheFirstFailure :
    (∀ f ∈ [(⟨0xFF#8, 0x00#8⟩ : Frame)], f.b0 = 0xFF#8) ∧ (⟨0xFE#8, 0xFF#8⟩ : Frame).b0 ≠ 0xFF#8 := by
  decide

theorem witness_WriteValidationReportsTheFirstFailure :
    (∀ f ∈ [ff], f = ⟨0xFF#8, 0xFF#8⟩) ∧ (⟨0x00#8, 0x00#8⟩ : Frame).b0 ≠ 0xFF#8 ∧
      ((⟨0xFF#8, 0xFE#8⟩ : Frame).b0 = 0xFF#8 ∧ (⟨0xFF#8, 0xFE#8⟩ : Frame).b1 ≠ 0xFF#8) ∧
      (∀ f ∈ [(⟨0xFF#8, 0x00#8⟩ : Frame)], f.b0 = 0xFF#8) := by
  decide

theorem witness_FrameIndexIsRecordedInTheError :
    validateRead [ff, ⟨0x00#8, 0x01#8⟩] = .error (.unexpectedHandshake 1 0 0x00) ∧
      validateWrite true [ff, ⟨0xFF#8, 0x01#8⟩] = .error (.unexpectedHandshake 1 1 0x01) ∧
      validateWrite false [⟨0xFE#8, 0x01#8⟩] = .error (.unexpectedHandshake 0 0 0xFE) := by
  decide

theorem witness_RdregReturnsTheResponseByte :
    Ready (opened [.answer (.ok [⟨0xFF#8, 0x49#8⟩])]) ∧ (0x7F#8).getLsbD 7 = false ∧
      (opened [.answer (.ok [⟨0xFF#8, 0x49#8⟩])]).replies = .answer (.ok [⟨0xFF#8, 0x49#8⟩]) :: [] :=
  ⟨ready_opened _, rfl, rfl⟩

theorem witness_WrregReturnsItsOperand :
    Ready (opened [.answer (.ok [ff])]) ∧ (0x7F#8).getLsbD 7 = false ∧
      (opened [.answer (.ok [ff])]).replies = .answer (.ok [⟨0xFF#8, 0xFF#8⟩]) :: [] :=
  ⟨ready_opened _, rfl, rfl⟩

theorem witness_RdregsReturnsTheResponseBytes :
    Ready (opened [.answer (.ok [⟨0xFF#8, 0x01#8⟩, ⟨0xFF#8, 0x00#8⟩])]) ∧ (∀ a ∈ [0x02#8, 0x02#8], a.getLsbD 7 = false) ∧
      [0x01#8, 0x00#8].length = [0x02#8, 0x02#8].length ∧
      (opened [.answer (.ok [⟨0xFF#8, 0x01#8⟩, ⟨0xFF#8, 0x00#8⟩])]).replies =
        .answer (.ok ([0x01#8, 0x00#8].map fun v => ⟨0xFF#8, v⟩)) :: [] :=
  ⟨ready_opened _, by simp, rfl, rfl⟩

/-- The empty batch (R96). -/
theorem witness_RdregsReturnsTheResponseBytes_empty :
    Ready (opened [.answer (.ok [])]) ∧ (∀ a ∈ ([] : List Byte), a.getLsbD 7 = false) ∧
      (opened [.answer (.ok [])]).replies = .answer (.ok (([] : List Byte).map fun v => ⟨0xFF#8, v⟩)) :: [] :=
  ⟨ready_opened _, by decide, rfl⟩

theorem witness_WrregsReturnsNoValue :
    Ready (opened [.answer (.ok [ff, ff])]) ∧ (∀ p ∈ [(0x20#8, 0x01#8), (0x20#8, 0x02#8)], p.1.getLsbD 7 = false) ∧
      (opened [.answer (.ok [ff, ff])]).replies =
        .answer (.ok (List.replicate [(0x20#8, 0x01#8), (0x20#8, 0x02#8)].length ⟨0xFF#8, 0xFF#8⟩)) :: [] :=
  ⟨ready_opened _, by simp, rfl⟩

theorem witness_SingleAccessHandshakeFailure :
    Ready (opened [.answer (.ok [⟨0xFF#8, 0xFE#8⟩])]) ∧ (0x00#8).getLsbD 7 = false ∧ (0x7F#8).getLsbD 7 = false ∧
      (⟨0xFE#8, 0x00#8⟩ : Frame).b0 ≠ 0xFF#8 ∧
      ((⟨0xFF#8, 0xFE#8⟩ : Frame).b0 = 0xFF#8 ∧ (⟨0xFF#8, 0xFE#8⟩ : Frame).b1 ≠ 0xFF#8) :=
  ⟨ready_opened _, by decide, by decide, by decide, by decide⟩

theorem witness_BatchHandshakeFailure :
    Ready (opened [.answer (.ok ([ff] ++ ⟨0xFF#8, 0x00#8⟩ :: [ff]))]) ∧
      ((∀ a ∈ [0x00#8, 0x01#8, 0x7F#8], a.getLsbD 7 = false) ∧
        [0x00#8, 0x01#8, 0x7F#8].length = ([ff] ++ (⟨0x00#8, 0x00#8⟩ : Frame) :: [ff]).length ∧
        (∀ f ∈ [ff], f.b0 = 0xFF#8) ∧ (⟨0x00#8, 0x00#8⟩ : Frame).b0 ≠ 0xFF#8) ∧
      ((∀ p ∈ [(0x00#8, 0x00#8), (0x01#8, 0x00#8), (0x7F#8, 0x00#8)], p.1.getLsbD 7 = false) ∧
        [(0x00#8, 0x00#8), (0x01#8, 0x00#8), (0x7F#8, 0x00#8)].length = ([ff] ++ (⟨0xFF#8, 0x00#8⟩ : Frame) :: [ff]).length ∧
        (∀ f ∈ [ff], f = ⟨0xFF#8, 0xFF#8⟩) ∧ (⟨0xFF#8, 0x00#8⟩ : Frame).b0 = 0xFF#8 ∧
        (⟨0xFF#8, 0x00#8⟩ : Frame).b1 ≠ 0xFF#8) ∧
      (([ff, ff, ff, ff] ++ (⟨0x00#8, 0xFF#8⟩ : Frame) :: []).length = 5 ∧ (∀ f ∈ [ff, ff, ff, ff], f.b0 = 0xFF#8)) :=
  ⟨ready_opened _, by simp [ff], by simp [ff], by simp [ff]⟩

theorem witness_TransportFailureEndsAnAccess :
    Ready (opened [.answer .fail]) ∧ (opened [.answer .fail]).replies = .answer .fail :: [] ∧ (0x10#8).getLsbD 7 = false ∧
      (∀ a ∈ ([] : List Byte), a.getLsbD 7 = false) ∧ (∀ p ∈ [(0x7F#8, 0x00#8)], p.1.getLsbD 7 = false) :=
  ⟨ready_opened _, rfl, by decide, by simp, by simp⟩

theorem witness_IllegalAddressIsAContractViolation :
    Ready (opened []) ∧ (0x80#8).getLsbD 7 = true ∧ (0xFF#8).getLsbD 7 = true ∧
      (∀ b ∈ [0x10#8, 0x7F#8], b.getLsbD 7 = false) ∧ (∀ p ∈ [(0x7F#8, 0x01#8)], p.1.getLsbD 7 = false) :=
  ⟨ready_opened _, by decide, by decide, by simp, by simp⟩

theorem witness_RdsampleReturnsTheSample :
    Ready (opened [.answer (.ok [ff, ff, ⟨0xFF#8, 0x7F#8⟩, ⟨0xFF#8, 0x00#8⟩, ⟨0xFF#8, 0x80#8⟩])]) ∧
      (opened [.answer (.ok [ff, ff, ⟨0xFF#8, 0x7F#8⟩, ⟨0xFF#8, 0x00#8⟩, ⟨0xFF#8, 0x80#8⟩])]).replies =
        .answer (.ok [⟨0xFF#8, 0xFF#8⟩, ⟨0xFF#8, 0xFF#8⟩, ⟨0xFF#8, 0x7F#8⟩, ⟨0xFF#8, 0x00#8⟩, ⟨0xFF#8, 0x80#8⟩]) :: [] :=
  ⟨ready_opened _, rfl⟩

theorem witness_AccessesKeepTheHandle :
    (opened []).cmd = none ∧ (∃ t, exec (.rdreg 0x00) (opened []) = .next t) ∧ (∃ t, exec (.wrreg 0x80 0x00) (opened []) = .next t) ∧
      (∃ t, exec (.rdregs []) (opened []) = .next t) ∧ (∃ t, exec (.wrregs []) (opened []) = .next t) ∧
      (∃ t, exec .rdsample (opened []) = .next t) ∧ (∃ t, exec (.setdbg 0x01) (opened []) = .next t) :=
  ⟨rfl, ⟨_, rfl⟩, ⟨_, rfl⟩, ⟨_, rfl⟩, ⟨_, rfl⟩, ⟨_, rfl⟩, ⟨_, rfl⟩⟩

theorem witness_UnansweredCommandsWaitInTheirCall :
    Unanswered State.reset ∧ NoHandle State.reset ∧ Unanswered (opened [.pending]) ∧ Ready (opened [.pending]) ∧
      (opened [.pending]).phase = .uninitialized ∧ (0x7F#8).getLsbD 7 = false ∧
      (∀ a ∈ ([] : List Byte), a.getLsbD 7 = false) ∧ (∀ p ∈ [(0x00#8, 0xFF#8)], p.1.getLsbD 7 = false) :=
  ⟨.inl rfl, ⟨rfl, rfl, rfl⟩, .inr ⟨[], rfl⟩, ready_opened _, rfl, by decide, by simp, by simp⟩

theorem witness_RequestFramesAreExchanged :
    ((reading [.answer (.ok [ff])]).call = some .xfer ∧ (reading [.answer (.ok [ff])]).cmd = some (.rdreg 0x7F) ∧
      (0x7F#8).getLsbD 7 = false ∧ (reading [.answer (.ok [ff])]).replies = .answer (.ok [⟨0xFF#8, 0xFF#8⟩]) :: [] ∧
      (reading [.answer .fail]).replies = .answer .fail :: []) ∧
    ({ reading [.answer (.ok [ff])] with cmd := some (.wrreg 0x7F 0x00), call := none }.call = none ∧
      { reading [.answer (.ok [ff])] with cmd := some (.wrreg 0x7F 0x00), call := none }.cmd = some (.wrreg 0x7F 0x00)) :=
  ⟨⟨rfl, rfl, rfl, rfl, rfl⟩, rfl, rfl⟩

/-- The three stages of `INIT`, each with a good answer, a bad one and a failure. -/
theorem witness_RequestFramesAreExchanged_init (answers : List Reply) :
    ((resetting answers).call = some .xfer ∧ (resetting answers).cmd = some .init ∧ (resetting answers).seq = .por ∧
      (resetting answers).replies = answers) ∧
    { resetting answers with seq := .pid, call := none }.seq = .pid ∧ { resetting answers with seq := .ipid }.seq = .ipid ∧
      (⟨0xFF#8, 0x00#8⟩ : Frame) ≠ ⟨0xFF#8, 0xFF#8⟩ ∧ (⟨0x00#8, 0x49#8⟩ : Frame).b0 ≠ 0xFF#8 ∧
      ((⟨0xFF#8, 0x48#8⟩ : Frame).b1 ≠ 0x49#8 ∧ (⟨0xFF#8, 0xB7#8⟩ : Frame).b1 ≠ 0xB6#8) :=
  ⟨⟨rfl, rfl, rfl, rfl⟩, rfl, rfl, by decide, by decide, by decide⟩

theorem witness_FramesWaitOrAreRefused :
    (Unanswered (reading []) ∧ (reading []).cmd ≠ none ∧ (reading []).call = some .xfer) ∧ State.reset.cmd = none ∧
      ((inDelay []).call ≠ none ∧ (inDelay []).call ≠ some .xfer) :=
  ⟨⟨.inl rfl, by decide, rfl⟩, rfl, by simp [inDelay], by simp [inDelay]⟩

theorem witness_OpenGivesAFreshHandle :
    NoHandle (closed [.answer (.ok []), .answer (.ok [])]) ∧
      (closed [.answer (.ok []), .answer (.ok [])]).replies = .answer (.ok []) :: .answer (.ok []) :: [] :=
  ⟨⟨rfl, rfl, rfl⟩, rfl⟩

theorem witness_FailedOpenLeavesNoHandle :
    (NoHandle (closed [.answer .fail]) ∧ (closed [.answer .fail]).replies = .answer .fail :: []) ∧
      (NoHandle (closed [.answer (.ok []), .answer .fail, .answer (.ok [])]) ∧
        (closed [.answer (.ok []), .answer .fail, .answer (.ok [])]).replies =
          .answer (.ok []) :: .answer .fail :: .answer (.ok []) :: []) :=
  ⟨⟨⟨rfl, rfl, rfl⟩, rfl⟩, ⟨rfl, rfl, rfl⟩, rfl⟩

/-- The two states of the last clause differ in every part of the handle that can differ. -/
theorem witness_CloseReleasesTheHandle :
    ({ opened [.answer (.ok [])] with unusable := true }.isOpen = true ∧
      { opened [.answer (.ok [])] with unusable := true }.cmd = none ∧
      { opened [.answer (.ok [])] with unusable := true }.replies = .answer (.ok []) :: []) ∧
    { opened [.answer (.ok [])] with ch := some ⟨1, 2⟩, phase := .configured, debug := true, k := 3, outbuf := [ff], inbuf := [ff] } ≠
      { opened [.answer (.ok [])] with unusable := true } :=
  ⟨⟨rfl, rfl, rfl⟩, by decide⟩

/-- R143: no frame survives `CLOSE`. -/
theorem test_close_loses_frames (frames : List Frame) :
    exec .closeCh { opened [.answer (.ok [])] with outbuf := frames, inbuf := frames } =
      exec .closeCh (opened [.answer (.ok [])]) := rfl

theorem witness_SetdbgWritesTheDebugFlag :
    Ready (opened []) ∧ Idle (opened []) ∧ 0x01#8 < 0x02#8 ∧ 0x01#8 < 0xFF#8 :=
  ⟨ready_opened [], ⟨rfl, rfl, rfl⟩, by decide, by decide⟩

theorem witness_AdmissionRefusals :
    (reading []).cmd ≠ none ∧ (State.reset.cmd = none ∧ State.reset.isOpen = false ∧ ∀ bus cs, Instr.closeCh ≠ .openCh bus cs) ∧
      ((opened []).cmd = none ∧ (opened []).isOpen = true ∧ ∃ bus cs, Instr.openCh 0 1 = .openCh bus cs) ∧
      ({ opened [] with unusable := true }.unusable = true ∧ (∀ bus cs, Instr.rdsample ≠ .openCh bus cs) ∧
        Instr.rdsample ≠ .closeCh) :=
  ⟨by decide, ⟨rfl, rfl, by simp⟩, ⟨rfl, rfl, 0, 1, rfl⟩, rfl, by simp, by decide⟩

theorem witness_InitIsRefusedOutsideUninitialized :
    Ready { opened [] with phase := .configured } ∧ Idle { opened [] with phase := .configured } ∧
      { opened [] with phase := .configured }.phase ≠ .uninitialized :=
  ⟨⟨rfl, rfl, rfl⟩, ⟨rfl, rfl, rfl⟩, by decide⟩

theorem witness_InitConfiguresTheDevice :
    Ready (opened initAnswers) ∧ (opened initAnswers).phase = .uninitialized ∧
      (opened initAnswers).replies =
        .answer (.ok [⟨0xFF#8, 0xFF#8⟩]) :: .answer (.ok [⟨0xFF#8, 0x49#8⟩]) :: .answer (.ok [⟨0xFF#8, 0xB6#8⟩]) ::
          .answer (.ok (List.replicate 55 ⟨0xFF#8, 0xFF#8⟩)) :: .answer .fail ::
          .answer (.ok (List.replicate 14 ⟨0xFF#8, 0xFF#8⟩)) :: [] :=
  ⟨ready_opened _, rfl, rfl⟩

/-- `INIT` after an `OPEN`, and the empty batch. -/
theorem witness_CommandCosts :
    (Instr.init.format = .cmd ∧ (opened initAnswers).cmd = none ∧ NothingRefused (opened initAnswers) ∧
      NothingRefused configured ∧ exec .init (opened initAnswers) = .next configured ∧ configured.cmd = none ∧
      configured.res = some (.ok .unit)) ∧
    (nextOf (exec (.rdregs []) { opened [.answer (.ok [])] with
      res := some (.ok .unit), hist := [.opened 0 0 true, .configured xcfgConst true] })).map
        (fun t => (t.cmd, t.refused, t.res)) = some (none, false, some (.ok (.bytes []))) :=
  ⟨⟨rfl, rfl, rfl, rfl, test_init_runs, rfl, rfl⟩, by decide⟩

theorem witness_InitAbortsAtTheResetWrite :
    Ready (opened [.answer .fail]) ∧ (opened [.answer .fail]).phase = .uninitialized ∧
      (opened [.answer .fail]).replies = .answer .fail :: [] ∧ (⟨0x00#8, 0xFF#8⟩ : Frame).b0 ≠ 0xFF#8 ∧
      ((⟨0xFF#8, 0xFE#8⟩ : Frame).b0 = 0xFF#8 ∧ (⟨0xFF#8, 0xFE#8⟩ : Frame).b1 ≠ 0xFF#8) :=
  ⟨ready_opened _, rfl, rfl, by decide, by decide⟩

theorem witness_InitAbortsAtTheProductId :
    Ready (opened [.answer (.ok [ff]), .answer .fail]) ∧ (opened [.answer (.ok [ff]), .answer .fail]).phase = .uninitialized ∧
      (opened [.answer (.ok [ff]), .answer .fail]).replies = .answer (.ok [⟨0xFF#8, 0xFF#8⟩]) :: .answer .fail :: [] ∧
      (⟨0x00#8, 0x49#8⟩ : Frame).b0 ≠ 0xFF#8 ∧
      ((⟨0xFF#8, 0x48#8⟩ : Frame).b0 = 0xFF#8 ∧ (⟨0xFF#8, 0x48#8⟩ : Frame).b1 ≠ 0x49#8) :=
  ⟨ready_opened _, rfl, rfl, by decide, by decide⟩

theorem witness_InitAbortsAtTheInverseProductId :
    Ready (opened [.answer (.ok [ff]), .answer (.ok [⟨0xFF#8, 0x49#8⟩]), .answer .fail]) ∧
      (opened [.answer (.ok [ff]), .answer (.ok [⟨0xFF#8, 0x49#8⟩]), .answer .fail]).replies =
        .answer (.ok [⟨0xFF#8, 0xFF#8⟩]) :: .answer (.ok [⟨0xFF#8, 0x49#8⟩]) :: .answer .fail :: [] ∧
      (⟨0x00#8, 0xB6#8⟩ : Frame).b0 ≠ 0xFF#8 ∧
      ((⟨0xFF#8, 0xB7#8⟩ : Frame).b0 = 0xFF#8 ∧ (⟨0xFF#8, 0xB7#8⟩ : Frame).b1 ≠ 0xB6#8) :=
  ⟨ready_opened _, rfl, by decide, by decide⟩

theorem witness_InitAbortsAtBatch1 :
    Ready (opened (initAnswers.take 3 ++ [.answer .fail])) ∧ (opened (initAnswers.take 3 ++ [.answer .fail])).debug = false ∧
      (opened (initAnswers.take 3 ++ [.answer .fail])).replies =
        .answer (.ok [⟨0xFF#8, 0xFF#8⟩]) :: .answer (.ok [⟨0xFF#8, 0x49#8⟩]) :: .answer (.ok [⟨0xFF#8, 0xB6#8⟩]) ::
          .answer .fail :: [] ∧
      ((List.replicate 10 ff ++ (⟨0xFF#8, 0x00#8⟩ : Frame) :: List.replicate 44 ff).length = 55 ∧
        (∀ f ∈ List.replicate 10 ff, f = ⟨0xFF#8, 0xFF#8⟩) ∧ (⟨0xFF#8, 0x00#8⟩ : Frame) ≠ ⟨0xFF#8, 0xFF#8⟩) :=
  ⟨ready_opened _, rfl, rfl, by decide⟩

theorem witness_InitAbortsAtBatch2 :
    Ready (opened (initAnswers.take 5 ++ [.answer .fail])) ∧ (opened (initAnswers.take 5 ++ [.answer .fail])).debug = false ∧
      (opened (initAnswers.take 5 ++ [.answer .fail])).replies =
        .answer (.ok [⟨0xFF#8, 0xFF#8⟩]) :: .answer (.ok [⟨0xFF#8, 0x49#8⟩]) :: .answer (.ok [⟨0xFF#8, 0xB6#8⟩]) ::
          .answer (.ok (List.replicate 55 ⟨0xFF#8, 0xFF#8⟩)) :: .answer .fail :: .answer .fail :: [] ∧
      ((List.replicate 13 ff ++ (⟨0x00#8, 0xFF#8⟩ : Frame) :: []).length = 14 ∧
        (∀ f ∈ List.replicate 13 ff, f = ⟨0xFF#8, 0xFF#8⟩) ∧ (⟨0x00#8, 0xFF#8⟩ : Frame) ≠ ⟨0xFF#8, 0xFF#8⟩) :=
  ⟨ready_opened _, rfl, rfl, by decide⟩

/-- The three ends: still waiting, configured, failed. -/
theorem witness_InitConfiguresOrMakesUnusable :
    (Ready (opened []) ∧ (opened []).phase = .uninitialized ∧ ∃ t, exec .init (opened []) = .next t) ∧
      exec .init (opened initAnswers) = .next configured ∧ (∃ t, exec .init (opened [.answer .fail]) = .next t) :=
  ⟨⟨ready_opened _, rfl, _, rfl⟩, test_init_runs, _, rfl⟩

theorem inv_opened (answers : List Reply) : Inv (opened answers) :=
  ⟨fun _ => ⟨rfl, rfl, rfl⟩, nofun, nofun, fun _ => ⟨rfl, rfl⟩, nofun, nofun, nofun, nofun, rfl⟩

theorem inv_reading (answers : List Reply) : Inv (reading answers) :=
  ⟨nofun, fun _ h => by cases h; exact ⟨rfl, rfl, by simp [contractOk]; decide, nofun, (.xfer, _), rfl, rfl, rfl⟩,
    fun _ h => by cases h; rfl, fun _ => ⟨rfl, rfl⟩, nofun, nofun, nofun, nofun, rfl⟩

theorem inv_resetting (answers : List Reply) : Inv (resetting answers) :=
  ⟨nofun, fun _ h => by cases h; exact ⟨rfl, rfl, trivial, fun _ => rfl, (.xfer, _), rfl, rfl, rfl⟩,
    fun _ h => by cases h; rfl, fun _ => ⟨rfl, rfl⟩, nofun, nofun, nofun, nofun, rfl⟩

theorem inv_inDelay (answers : List Reply) : Inv (inDelay answers) :=
  ⟨nofun, fun _ h => by cases h; exact ⟨rfl, rfl, trivial, fun _ => rfl, (.delay, _), rfl, rfl, rfl⟩,
    fun _ h => by cases h; rfl, fun _ => ⟨rfl, rfl⟩, nofun, nofun, fun _ _ h => absurd rfl h, nofun, rfl⟩

theorem witness_StepKeepsTheInvariant :
    (Inv (reading [.answer .fail]) ∧ ∃ t, step (reading [.answer .fail]) = .next t) ∧
      (Inv (opened []) ∧ ∃ t, step (opened []) = .next t) :=
  ⟨⟨inv_reading _, _, rfl⟩, inv_opened _, _, rfl⟩

/-- Both ends: a successor, and a hang. -/
theorem witness_OnlyAHangHasNoSuccessor :
    (Inv (opened []) ∧ ∃ t, step (opened []) = .next t) ∧ (Inv (reading []) ∧ step (reading []) = .fault .blocked) :=
  ⟨⟨inv_opened _, _, rfl⟩, inv_reading _, rfl⟩

theorem witness_HungTransportLeavesTheRacBusy :
    { reading [] with presented := [[0x02#8]] }.cmd ≠ none ∧ { reading [] with presented := [[0x02#8]] }.call ≠ none ∧
      { reading [] with presented := [[0x02#8]] }.replies = [] ∧
      ∃ t, Host.Core.run Sys2Proof.core 1 { reading [] with presented := [[0x02#8]] } = .next t :=
  ⟨by decide, by decide, rfl, _, rfl⟩

theorem witness_CommandsEndWhenCallsReturn :
    Instr.init.format = .cmd ∧ (opened initAnswers).cmd = none ∧ 6 ≤ (opened initAnswers).replies.length ∧
      (∀ r ∈ (opened initAnswers).replies, ∃ a, r = .answer a) :=
  ⟨rfl, rfl, by decide, by simp [opened, initAnswers]⟩

theorem witness_LateAnswersChangeNothing :
    (run { resetting [] with replies := [.answer (.ok [ff])] ++ .pending :: [.answer .fail] }).replies = .pending :: [.answer .fail] ∧
      (run { resetting [] with replies := [.answer (.ok [ff])] ++ .pending :: [.answer .fail] }).call ≠ none := by
  decide

theorem witness_HistoryMarkAndResultAreKept :
    (∃ t, step { resetting [.answer (.ok [ff])] with refused := true, reason := some .busy } = .next t ∧ t.cmd ≠ none) :=
  ⟨_, rfl, by decide⟩

theorem witness_OpenHandleOnlyAdvances :
    Inv (resetting [.answer .fail]) ∧ (resetting [.answer .fail]).isOpen = true ∧
      ∃ t, step (resetting [.answer .fail]) = .next t ∧ t.isOpen = true :=
  ⟨inv_resetting _, rfl, _, rfl, rfl⟩

theorem witness_InitStagesOnlyAdvance :
    Inv (resetting [.answer (.ok [ff])]) ∧ (resetting [.answer (.ok [ff])]).cmd = some .init ∧
      ∃ t, step (resetting [.answer (.ok [ff])]) = .next t ∧ t.cmd = some .init :=
  ⟨inv_resetting _, rfl, _, rfl, rfl⟩

theorem witness_DelayStandsBetweenTheBatches :
    Inv (inDelay [.answer .fail]) ∧ Settled (inDelay [.answer .fail]) ∧ ∃ t, step (inDelay [.answer .fail]) = .next t :=
  ⟨inv_inDelay _, fun _ => ⟨fun _ => ⟨[], _, rfl⟩, nofun⟩, _, rfl⟩

theorem witness_OnlyRequestFramesAreSent :
    Inv (reading [.answer .fail]) ∧ OnlyDefinedFrames (reading [.answer .fail]).hist ∧
      ∃ t, step (reading [.answer .fail]) = .next t ∧ framesSent t.hist = [⟨0x7F#8, 0x00#8⟩] :=
  ⟨inv_reading _, by simp [OnlyDefinedFrames, framesSent, reading, opened, State.reset], _, rfl, rfl⟩

/-- `INIT` after an `OPEN`. -/
theorem witness_ErrorKindsOfEachCommand :
    Instr.init.format = .cmd ∧
      (nextOf (exec .init { opened [.answer .fail] with res := some (.ok .unit) })).map (fun t => (t.cmd, t.refused, t.res)) =
        some (none, false, some (.err (.transportError .transfer))) := by
  decide

theorem witness_DebugFlagHasNoOtherEffect :
    eraseDebug { opened [] with debug := true, hist := [.logged .productId 0x49] } = eraseDebug (opened []) := rfl

theorem witness_BatchReadIsSequentialReads :
    Ready (opened []) ∧ (∀ a ∈ [0x03#8, 0x7F#8], a.getLsbD 7 = false) ∧ [ff, ⟨0x00#8, 0x00#8⟩].length = [0x03#8, 0x7F#8].length :=
  ⟨ready_opened _, by simp, rfl⟩

theorem witness_BatchWriteIsSequentialWrites :
    Ready (opened []) ∧ (∀ p ∈ [(0x03#8, 0x00#8), (0x7F#8, 0x01#8)], p.1.getLsbD 7 = false) ∧
      [ff, ⟨0xFF#8, 0x00#8⟩].length = [(0x03#8, 0x00#8), (0x7F#8, 0x01#8)].length :=
  ⟨ready_opened _, by simp, rfl⟩

/-- A bank with `0x10` at every address. -/
def bank10 : Bank := Vector.replicate 128 0x10#8

theorem witness_SimulatedSampleIsIdempotent :
    Ready (opened [simAnswer bank10 (readFrames motionRegs),
        simAnswer (simFrames bank10 (readFrames motionRegs)).2 (readFrames motionRegs)]) ∧
      (opened [simAnswer bank10 (readFrames motionRegs),
        simAnswer (simFrames bank10 (readFrames motionRegs)).2 (readFrames motionRegs)]).replies =
        simAnswer bank10 (readFrames motionRegs) ::
          simAnswer (simFrames bank10 (readFrames motionRegs)).2 (readFrames motionRegs) :: [] :=
  ⟨ready_opened _, rfl⟩

end Sys2Proof.Tests
end

section
/-! PROOFS. The turns of a step (spec/00_scope.md R12 to R14): who moves, what runs, where it waits and where it stops. -/

namespace Sys2Proof.Proofs

open Sys2Proof.Machine

/-! ### The turns of a step -/

section Turns

variable {s : State} {bytes rest : List Byte} {later : List (List Byte)} {i : Instr}

theorem step_idle (hc : s.cmd = none) : step s = callerTurn s := by
  simp only [step, stepOnce, hc]

theorem step_inCall {c : Instr} {p : Pending} (hc : s.cmd = some c) (hp : s.call = some p) : step s = waitTurn p s := by
  simp only [step, stepOnce, hc, hp]

theorem waitTurn_xfer {a : Answer} {more : List Reply} (hr : s.replies = .answer a :: more) :
    waitTurn .xfer s = wireTurn s := by
  simp [waitTurn, hr]

theorem waitTurn_answer {p : Pending} {a : Answer} {more : List Reply} (hp : p ≠ .xfer) (hr : s.replies = .answer a :: more) :
    waitTurn p s = .next (run s) := by
  simp [waitTurn, hr, hp]

theorem waitTurn_pending {more : List Reply} (p : Pending) (hr : s.replies = .pending :: more) :
    waitTurn p s = callerTurn { s with replies := more } := by
  simp only [waitTurn, hr]

theorem waitTurn_hung (p : Pending) (hr : s.replies = []) (hp : s.presented = []) : waitTurn p s = .fault .blocked := by
  simp only [waitTurn, hr, hp]

theorem waitTurn_noAnswer (p : Pending) (hr : s.replies = []) (hp : s.presented = bytes :: later) :
    waitTurn p s = callerTurn s := by
  simp only [waitTurn, hr, hp]

theorem callerTurn_nothing (hp : s.presented = []) : callerTurn s = .next s := by
  simp only [callerTurn, hp]

theorem callerTurn_rejected {e : DecodeError} (hp : s.presented = bytes :: later) (hd : decodeCmd bytes = .error e) :
    callerTurn s = .next (refuse (rejection e) { s with presented := later }) := by
  simp only [callerTurn, hp, hd]

theorem afterCommand_eq (rest : List Byte) (later : List (List Byte)) :
    afterCommand rest later = if rest = [] then later else rest :: later := by
  cases rest <;> rfl

theorem callerTurn_decoded (hp : s.presented = bytes :: later) (hd : decodeCmd bytes = .ok (i, rest)) :
    callerTurn s = exec i { s with presented := if rest = [] then later else rest :: later } := by
  simp only [callerTurn, hp, hd, afterCommand_eq]

theorem wireTurn_decoded {f : Frame} (ho : s.outbuf = [f]) (hd : decodeFrame f = .ok i) : wireTurn s = exec i s := by
  simp only [wireTurn, ho, hd]

end Turns

/-- Settles O9: each of the three turns is the caller's, which runs what the string decodes to. -/
theorem stepRunsTheDecodedCommand : Obligations.StepRunsTheDecodedCommand := by
  intro s bytes rest later i hp hd
  refine ⟨fun hc => ?_, fun c call waiting hc hcall hr => ?_, fun c call hc hcall hr => ?_⟩
  · rw [step_idle hc, callerTurn_decoded hp hd]
  · rw [step_inCall hc hcall, waitTurn_pending call hr]
    exact callerTurn_decoded hp hd
  · rw [step_inCall hc hcall, waitTurn_noAnswer call hr hp, callerTurn_decoded hp hd]

/-- Settles O11: a call that returns, a call that never does, and an idle RAC with nothing to do. -/
theorem stepOnTheOtherTurns : Obligations.StepOnTheOtherTurns := by
  intro s
  refine ⟨fun c call a rest hc hcall hx hr => ?_, fun c call hp hc hcall hr => ?_, fun hp hc => ?_⟩
  · rw [step_inCall hc hcall, waitTurn_answer hx hr, run, hr, drain_answer hcall]
  · rw [step_inCall hc hcall, waitTurn_hung call hr hp]
  · rw [step_idle hc, callerTurn_nothing hp]

/-! ### Late answers -/

/-- A run that stops at a `pending` has used up exactly the answers before it, so other answers in its place are met by the state
it stopped in. -/
theorem drain_resumes {soon late : List Reply} {s : State}
    (h : (drain (soon ++ .pending :: late) s).replies = .pending :: late) (answers : List Reply) :
    drain (soon ++ answers) s = drain answers (drain (soon ++ .pending :: late) s) := by
  induction soon generalizing s with
  | nil => rw [List.nil_append, List.nil_append, drain_pending, drain_setReplies]
  | cons r soon ih =>
    rw [List.cons_append] at h ⊢
    have stuck : r :: (soon ++ .pending :: late) ≠ .pending :: late := fun e => by
      have := congrArg List.length e
      simp only [List.length_cons, List.length_append] at this
      omega
    cases hc : s.call with
    | none => exact absurd (by simpa [drain_noCall hc] using h) stuck
    | some c =>
      cases r with
      | pending => exact absurd (by simpa using h) stuck
      | answer a =>
        rw [drain_answer hc] at h ⊢
        rw [List.cons_append, drain_answer hc, ih h]

/-- Settles O50: both runs are `drain` of the same state, and `drain` resumes where it stopped. -/
theorem lateAnswersChangeNothing : Obligations.LateAnswersChangeNothing := by
  rintro s t soon late rfl hr -
  have run_eq (rs : List Reply) (u : State) : run { u with replies := rs } = drain rs u := (drain_eq_run rs u).symm
  rw [run_eq] at hr
  rw [run_eq, run_eq, run_eq]
  exact (drain_resumes hr late).symm

/-! ### A command that waits in its first call -/

theorem run_unanswered {s : State} (h : Unanswered s) : run s = s := by
  obtain hr | ⟨rest, hr⟩ := h
  · rw [run, hr, drain_nil, ← hr]; rfl
  · rw [run, hr, drain_pending, ← hr]; rfl

/-- An admitted command whose call is not answered is left where its start has put it. -/
theorem command_waits {c : Instr} {start : State → State} {s t : State} (hs : Unanswered s) (ha : admission c s = none)
    (hst : start (begin c s) = t) (hr : t.replies = s.replies) : command c start s = .next t := by
  have ht : Unanswered t := by rwa [Unanswered, hr]
  rw [command_admitted ha, hst, run_unanswered ht]

theorem startRdreg_legal {a : Byte} (h : a.getLsbD 7 = false) (s : State) :
    startRdreg a s = issueXfer (readFrame a) s := by
  simp only [startRdreg, isIllegalAddr_eq, h, Bool.false_eq_true, if_false]

theorem startWrreg_legal {a : Byte} (h : a.getLsbD 7 = false) (v : Byte) (s : State) :
    startWrreg a v s = issueXfer (writeFrame a v) s := by
  simp only [startWrreg, isIllegalAddr_eq, h, Bool.false_eq_true, if_false]

theorem startRdregs_legal {addrs : List Byte} (h : ∀ a ∈ addrs, a.getLsbD 7 = false) (s : State) :
    startRdregs addrs s = issueBatch (readFrames addrs) s :=
  startBatchRead_legal (fun a ha => (isIllegalAddr_eq a).trans (h a ha)) s

theorem startWrregs_legal {pairs : List (Byte × Byte)} (h : ∀ p ∈ pairs, p.1.getLsbD 7 = false) (s : State) :
    startWrregs pairs s = issueBatch (writeFrames pairs) s :=
  startBatchWrite_legal (List.forall_mem_map.mpr fun p hp => (isIllegalAddr_eq p.1).trans (h p hp)) s

theorem startInit_uninitialized {s : State} (h : s.phase = .uninitialized) : startInit s = enterPor s := by
  simp [startInit, h]

/-- Settles O26: each command is admitted, its start issues its call, and the run stops there. -/
theorem unansweredCommandsWaitInTheirCall : Obligations.UnansweredCommandsWaitInTheirCall := by
  intro s hu
  refine ⟨fun bus cs hn => ?openCh, fun ho hc => ?closeCh, fun a hs ha => ?rdreg, fun a v hs ha => ?wrreg,
    fun addrs hs ha => ?rdregs, fun pairs hs ha => ?wrregs, fun hs hp => ?init, fun hs => ?rdsample⟩
  case openCh => exact command_waits hu (admission_open hn bus cs) rfl rfl
  case closeCh => exact command_waits hu (admission_close ho hc) rfl rfl
  case rdreg => exact command_waits hu (admission_ready hs fun _ _ => nofun) (startRdreg_legal ha _) rfl
  case wrreg => exact command_waits hu (admission_ready hs fun _ _ => nofun) (startWrreg_legal ha v _) rfl
  case rdregs => exact command_waits hu (admission_ready hs fun _ _ => nofun) (startRdregs_legal ha _) rfl
  case wrregs => exact command_waits hu (admission_ready hs fun _ _ => nofun) (startWrregs_legal ha _) rfl
  case init => exact command_waits hu (admission_ready hs fun _ _ => nofun) (startInit_uninitialized hp) rfl
  case rdsample => exact command_waits hu (admission_ready hs fun _ _ => nofun) rfl rfl

/-! ### Progress -/

/-- A decoder answers no instruction but one the caller presents (R61). -/
def OnlyCommands (d : Except DecodeError (Instr × List Byte)) : Prop :=
  ∀ i rest, d = .ok (i, rest) → i.format = .cmd

theorem onlyCommands_ok {i : Instr} (h : i.format = .cmd) (rest : List Byte) : OnlyCommands (.ok (i, rest)) := by
  rintro _ _ ⟨⟩
  exact h

theorem onlyCommands_error (e : DecodeError) : OnlyCommands (.error e) := nofun

theorem decodeOpen_onlyCommands : ∀ bytes, OnlyCommands (decodeOpen bytes)
  | _ :: _ :: _ => onlyCommands_ok rfl _
  | [_] | [] => onlyCommands_error _

theorem decodeSetdbg_onlyCommands : ∀ bytes, OnlyCommands (decodeSetdbg bytes)
  | _ :: _ => onlyCommands_ok rfl _
  | [] => onlyCommands_error _

theorem decodeRdreg_onlyCommands : ∀ bytes, OnlyCommands (decodeRdreg bytes)
  | _ :: _ => onlyCommands_ok rfl _
  | [] => onlyCommands_error _

theorem decodeWrreg_onlyCommands : ∀ bytes, OnlyCommands (decodeWrreg bytes)
  | _ :: _ :: _ => onlyCommands_ok rfl _
  | [_] | [] => onlyCommands_error _

theorem decodeRdregs_onlyCommands (bytes : List Byte) : OnlyCommands (decodeRdregs bytes) := by
  cases bytes with
  | nil => exact onlyCommands_error _
  | cons n rest =>
    unfold decodeRdregs; dsimp only
    cases takeAddrs n.toNat rest with
    | ok taken => exact onlyCommands_ok rfl _
    | error e => exact onlyCommands_error _

theorem decodeWrregs_onlyCommands (bytes : List Byte) : OnlyCommands (decodeWrregs bytes) := by
  cases bytes with
  | nil => exact onlyCommands_error _
  | cons n rest =>
    unfold decodeWrregs; dsimp only
    cases takePairs n.toNat rest with
    | ok taken => exact onlyCommands_ok rfl _
    | error e => exact onlyCommands_error _

/-- The caller's decoder gives no wire frame. -/
theorem decodeCmd_onlyCommands (bytes : List Byte) : OnlyCommands (decodeCmd bytes) := by
  cases bytes with
  | nil => exact onlyCommands_error _
  | cons op rest =>
    unfold decodeCmd; dsimp only
    split_ifs
    · exact decodeOpen_onlyCommands rest
    · exact onlyCommands_ok rfl rest
    · exact decodeSetdbg_onlyCommands rest
    · exact decodeRdreg_onlyCommands rest
    · exact decodeWrreg_onlyCommands rest
    · exact decodeRdregs_onlyCommands rest
    · exact decodeWrregs_onlyCommands rest
    · exact onlyCommands_ok rfl rest
    · exact onlyCommands_ok rfl rest
    · exact onlyCommands_error _

theorem decodeFrame_format {f : Frame} {i : Instr} (h : decodeFrame f = .ok i) : i.format = .frame16 := by
  unfold decodeFrame at h
  split_ifs at h <;> cases h <;> rfl

theorem decodeFrame_readFrame {a : Byte} (h : isIllegalAddr a = false) :
    decodeFrame (readFrame a) = .ok (.rdf (a.setWidth 7)) := by
  simp [decodeFrame, readFrame, h]

theorem isIllegalAddr_writeFlag (a : Byte) : isIllegalAddr (a ||| writeFlag) = true := by
  revert a; decide

theorem setWidth_writeFlag (a : Byte) : (a ||| writeFlag).setWidth 7 = a.setWidth 7 := by
  revert a; decide

theorem decodeFrame_writeFrame (a v : Byte) : decodeFrame (writeFrame a v) = .ok (.wrf (a.setWidth 7) v) := by
  simp only [decodeFrame, writeFrame, isIllegalAddr_writeFlag, setWidth_writeFlag, if_true]

theorem command_next (c : Instr) (start : State → State) (s : State) : ∃ t, command c start s = .next t := by
  cases ha : admission c s with
  | none => exact ⟨_, command_admitted ha⟩
  | some r => exact ⟨_, command_refused ha⟩

/-- A presented command always has a next state (R80, R137). -/
theorem exec_command_next {i : Instr} (h : i.format = .cmd) (s : State) : ∃ t, exec i s = .next t := by
  cases i with
  | rdf addr => cases h
  | wrf addr val => cases h
  | _ => exact command_next _ _ s

theorem callerTurn_next (s : State) : ∃ t, callerTurn s = .next t := by
  cases hp : s.presented with
  | nil => exact ⟨s, callerTurn_nothing hp⟩
  | cons bytes later =>
    cases hd : decodeCmd bytes with
    | error e => exact ⟨_, callerTurn_rejected hp hd⟩
    | ok d =>
      rw [callerTurn_decoded hp hd]
      exact exec_command_next (decodeCmd_onlyCommands bytes d.1 d.2 hd) _

theorem wireFrame_inTransfer {s : State} {c : Instr} (hc : s.cmd = some c) (hcall : s.call = none ∨ s.call = some .xfer)
    (f : Frame) : wireFrame f s = .next (run (issueXfer f s)) := by
  simp [wireFrame, isBusy, hc, hcall]

/-- A request frame at a single transfer always has a next state (R49, R61). -/
theorem exec_frame_next {i : Instr} (h : i.format = .frame16) {s : State} {c : Instr} (hc : s.cmd = some c)
    (hcall : s.call = none ∨ s.call = some .xfer) : ∃ t, exec i s = .next t := by
  cases i with
  | rdf addr => exact ⟨_, wireFrame_inTransfer hc hcall _⟩
  | wrf addr val => exact ⟨_, wireFrame_inTransfer hc hcall _⟩
  | _ => cases h

/-- A command in progress waits in a call that is no single transfer, or in the call of its stage with that call's frames. -/
theorem waitsIn_cases {c : Instr} {s : State} (h : WaitsIn c s) :
    (∃ p, p ≠ .xfer ∧ s.call = some p) ∨
      (contractOk c ∧ ∃ p, inFlight c s.seq = some p ∧ s.call = some p.1 ∧ s.outbuf = p.2) := by
  cases c with
  | openCh bus cs =>
    obtain ⟨-, -, ⟨hcall, -⟩ | ⟨hcall | hcall, -⟩⟩ := h
    · exact .inl ⟨.tOpen, nofun, hcall⟩
    · exact .inl ⟨.tConfigure, nofun, hcall⟩
    · exact .inl ⟨.tRelease, nofun, hcall⟩
  | closeCh =>
    obtain ⟨-, -, hcall⟩ := h
    exact .inl ⟨.tRelease, nofun, hcall⟩
  | _ =>
    obtain ⟨-, -, hok, -, hp⟩ := h
    exact .inr ⟨hok, hp⟩

/-- What a single transfer waits with is one of the two request frames (R75). -/
theorem inFlight_xfer {c : Instr} {q : Seq} {outs : List Frame} (hok : contractOk c)
    (h : inFlight c q = some (.xfer, outs)) : ∃ f i, outs = [f] ∧ decodeFrame f = .ok i := by
  have read (a : Byte) (ha : isIllegalAddr a = false) (ho : [readFrame a] = outs) :
      ∃ f i, outs = [f] ∧ decodeFrame f = .ok i := ⟨_, _, ho.symm, decodeFrame_readFrame ha⟩
  have write (a v : Byte) (ho : [writeFrame a v] = outs) :
      ∃ f i, outs = [f] ∧ decodeFrame f = .ok i := ⟨_, _, ho.symm, decodeFrame_writeFrame a v⟩
  cases c with
  | rdreg a =>
    obtain ⟨-, ho⟩ : q = .run ∧ [readFrame a] = outs := by simpa [inFlight] using h
    exact read a hok ho
  | wrreg a v =>
    obtain ⟨-, ho⟩ : q = .run ∧ [writeFrame a v] = outs := by simpa [inFlight] using h
    exact write a v ho
  | init =>
    cases q with
    | por => exact write regPor porValue (by simpa [inFlight, initInFlight] using h)
    | pid => exact read regPid (by decide) (by simpa [inFlight, initInFlight] using h)
    | ipid => exact read regIpid (by decide) (by simpa [inFlight, initInFlight] using h)
    | _ => simp [inFlight, initInFlight] at h
  | _ => simp [inFlight] at h

theorem waitsIn_call {c : Instr} {s : State} (h : WaitsIn c s) : ∃ p, s.call = some p := by
  obtain ⟨p, -, hp⟩ | ⟨-, p, -, hp, -⟩ := waitsIn_cases h
  · exact ⟨p, hp⟩
  · exact ⟨p.1, hp⟩

theorem wireTurn_next {c : Instr} {s : State} (hc : s.cmd = some c) (hw : WaitsIn c s) (hx : s.call = some .xfer) :
    ∃ t, wireTurn s = .next t := by
  obtain ⟨p, hne, hp⟩ | ⟨hok, ⟨p, outs⟩, hin, hp, ho⟩ := waitsIn_cases hw
  · exact absurd (Option.some.inj (hp.symm.trans hx)) hne
  · obtain rfl : p = .xfer := Option.some.inj (hp.symm.trans hx)
    obtain ⟨f, i, rfl, hd⟩ := inFlight_xfer hok hin
    rw [wireTurn_decoded ho hd]
    exact exec_frame_next (decodeFrame_format hd) hc (.inr hx)

/-- Settles O47: an idle RAC is on the caller's turn; a busy one is in a call, and its next answer says whose turn it is. -/
theorem onlyAHangHasNoSuccessor : Obligations.OnlyAHangHasNoSuccessor := by
  intro s hinv
  cases hc : s.cmd with
  | none => rw [step_idle hc]; exact .inl (callerTurn_next s)
  | some c =>
    have hw := hinv.busy c hc
    obtain ⟨p, hp⟩ := waitsIn_call hw
    rw [step_inCall hc hp]
    cases hr : s.replies with
    | nil =>
      cases hs : s.presented with
      | nil => exact .inr ⟨waitTurn_hung p hr hs, nofun, rfl, rfl⟩
      | cons bytes later => rw [waitTurn_noAnswer p hr hs]; exact .inl (callerTurn_next s)
    | cons r more =>
      cases r with
      | pending => rw [waitTurn_pending p hr]; exact .inl (callerTurn_next _)
      | answer a =>
        by_cases hx : p = .xfer
        · subst hx; rw [waitTurn_xfer hr]; exact .inl (wireTurn_next hc hw hp)
        · exact .inl ⟨_, waitTurn_answer hx hr⟩

end Sys2Proof.Proofs
end

section
/-! PROOFS. What a step of any state can do, said once, and what every step keeps of the record of the past
(spec/10_state.md R33, R34, R37). -/

namespace Sys2Proof.Proofs

open Sys2Proof.Machine

/-! ### What a step can do -/

/-- What each command does when it is admitted. -/
def startOf : Instr → State → State
  | .openCh _ _ => startOpen
  | .closeCh => startClose
  | .setdbg d => startSetdbg d
  | .rdreg a => startRdreg a
  | .wrreg a v => startWrreg a v
  | .rdregs addrs => startRdregs addrs
  | .wrregs pairs => startWrregs pairs
  | .init => startInit
  | .rdsample => startRdsample
  | .rdf _ | .wrf _ _ => id

theorem exec_command {i : Instr} (h : i.format = .cmd) (s : State) : exec i s = command i (startOf i) s := by
  cases i with
  | rdf addr => cases h
  | wrf addr val => cases h
  | _ => rfl

theorem takeAddrs_length {n : Nat} {bytes addrs rest : List Byte} (h : takeAddrs n bytes = .ok (addrs, rest)) :
    addrs.length = n := by
  fun_induction takeAddrs n bytes generalizing addrs rest with
  | case1 => cases h; rfl
  | case2 n a bytes as' rest' hd ih => cases h; simp [ih hd]
  | case3 => cases h
  | case4 => cases h

theorem takePairs_length {n : Nat} {bytes rest : List Byte} {pairs : List (Byte × Byte)}
    (h : takePairs n bytes = .ok (pairs, rest)) : pairs.length = n := by
  fun_induction takePairs n bytes generalizing pairs rest with
  | case1 => cases h; rfl
  | case2 n a v bytes ps rest' hd ih => cases h; simp [ih hd]
  | case3 => cases h
  | case4 => cases h

theorem decodeRdregs_wellFormed {bytes rest : List Byte} {i : Instr} (h : decodeRdregs bytes = .ok (i, rest)) :
    i.WellFormed := by
  unfold decodeRdregs at h
  split at h
  next n bytes =>
    split at h
    next addrs _ hd =>
      cases h
      have hl := takeAddrs_length hd
      have hn := n.isLt
      exact decide_eq_true (show addrs.length ≤ 255 by omega)
    next => cases h
  next => cases h

theorem decodeWrregs_wellFormed {bytes rest : List Byte} {i : Instr} (h : decodeWrregs bytes = .ok (i, rest)) :
    i.WellFormed := by
  unfold decodeWrregs at h
  split at h
  next n bytes =>
    split at h
    next pairs _ hd =>
      cases h
      have hl := takePairs_length hd
      have hn := n.isLt
      exact decide_eq_true (show pairs.length ≤ 255 by omega)
    next => cases h
  next => cases h

/-- A decoded batch has at most 255 operands, because its count is one byte (R70, R97). -/
theorem decodeCmd_wellFormed {bytes rest : List Byte} {i : Instr} (h : decodeCmd bytes = .ok (i, rest)) : i.WellFormed := by
  cases bytes with
  | nil => cases h
  | cons op bytes =>
    unfold decodeCmd at h; dsimp only at h
    split_ifs at h
    · unfold decodeOpen at h; split at h <;> cases h; rfl
    · cases h; rfl
    · unfold decodeSetdbg at h; split at h <;> cases h; rfl
    · unfold decodeRdreg at h; split at h <;> cases h; rfl
    · unfold decodeWrreg at h; split at h <;> cases h; rfl
    · exact decodeRdregs_wellFormed h
    · exact decodeWrregs_wellFormed h
    · cases h; rfl
    · cases h; rfl

/-- The frame a wire instruction exchanges. -/
theorem exec_decodedFrame {f : Frame} {i : Instr} (h : decodeFrame f = .ok i) (s : State) : exec i s = wireFrame f s := by
  unfold decodeFrame at h
  split_ifs at h with hw hr
  · cases h
    have hb : (f.b0.setWidth 7).setWidth 8 ||| writeFlag = f.b0 := by
      generalize f.b0 = b at hw
      revert b; decide
    simp only [exec, execWrf, writeFrame, hb]
  · cases h
    have hb : (f.b0.setWidth 7).setWidth 8 = f.b0 := by
      generalize f.b0 = b at hw
      revert b; decide
    simp only [exec, execRdf, readFrame, hb, ← hr]

/-- `s` with other inputs from the outside world: what the caller presents and what the transport answers. -/
def withInputs (presented : List (List Byte)) (replies : List Reply) (s : State) : State :=
  { s with presented := presented, replies := replies }

/-- What a step of any state can do when it has a next state. -/
inductive StepCase (s : State) : State → Prop
  | waited (presented : List (List Byte)) (replies : List Reply) : StepCase s (withInputs presented replies s)
  | refused (r : RefuseReason) (presented : List (List Byte)) (replies : List Reply) :
      StepCase s (refuse r (withInputs presented replies s))
  | command {c : Instr} (presented : List (List Byte)) (replies : List Reply) (format : c.format = .cmd)
      (wellFormed : c.WellFormed) (admitted : admission c s = none) :
      StepCase s (run (startOf c (begin c (withInputs presented replies s))))
  | frame {f : Frame} (busy : s.cmd ≠ none) (outbuf : s.outbuf = [f]) (call : s.call = none ∨ s.call = some .xfer) :
      StepCase s (run (issueXfer f s))
  | returned (busy : s.cmd ≠ none) : StepCase s (run s)

variable {s t : State}

theorem callerTurn_cases {replies : List Reply} (h : callerTurn (withInputs s.presented replies s) = .next t) :
    StepCase s t := by
  generalize hp : s.presented = presented at h
  have hp' : (withInputs presented replies s).presented = presented := rfl
  cases presented with
  | nil =>
    rw [callerTurn_nothing hp'] at h
    cases h
    exact .waited [] replies
  | cons bytes later =>
    cases hd : decodeCmd bytes with
    | error e =>
      rw [callerTurn_rejected hp' hd] at h
      cases h
      exact .refused (rejection e) later replies
    | ok d =>
      obtain ⟨c, rest⟩ := d
      have format := decodeCmd_onlyCommands bytes c rest hd
      rw [callerTurn_decoded hp' hd, exec_command format] at h
      obtain ⟨r, -, rfl⟩ | ⟨ha, rfl⟩ := command_cases h
      · exact .refused r _ replies
      · exact .command _ replies format (decodeCmd_wellFormed hd) ha

theorem wireTurn_cases (busy : s.cmd ≠ none) (h : wireTurn s = .next t) : StepCase s t := by
  unfold wireTurn at h
  split at h
  next f ho =>
    split at h
    next i hd =>
      rw [exec_decodedFrame hd] at h
      unfold wireFrame at h
      split_ifs at h with hx
      cases h
      exact .frame busy ho hx.2
    next => cases h
  next => cases h

theorem step_noCall {c : Instr} (hc : s.cmd = some c) (hp : s.call = none) : step s = wireTurn s := by
  simp only [step, stepOnce, hc, hp]

theorem step_cases (h : step s = .next t) : StepCase s t := by
  cases hc : s.cmd with
  | none => rw [step_idle hc] at h; exact callerTurn_cases h
  | some c =>
    have busy : s.cmd ≠ none := by simp [hc]
    cases hp : s.call with
    | none => rw [step_noCall hc hp] at h; exact wireTurn_cases busy h
    | some p =>
      rw [step_inCall hc hp] at h
      cases hr : s.replies with
      | nil =>
        cases hs : s.presented with
        | nil => rw [waitTurn_hung p hr hs] at h; cases h
        | cons bytes later => rw [waitTurn_noAnswer p hr hs] at h; exact callerTurn_cases h
      | cons r more =>
        cases r with
        | pending => rw [waitTurn_pending p hr] at h; exact callerTurn_cases h
        | answer a =>
          by_cases hx : p = .xfer
          · subst hx; rw [waitTurn_xfer hr] at h; exact wireTurn_cases busy h
          · rw [waitTurn_answer hx hr] at h; cases h; exact .returned busy

/-- Settles O10: in both cases the step is the turn of the frame in `OUTBUF`. -/
theorem stepRunsTheFrameInTransfer : Obligations.StepRunsTheFrameInTransfer := by
  intro s f i busy ho hd
  obtain ⟨c, hc⟩ := Option.ne_none_iff_exists'.mp busy
  refine ⟨fun hp => ?_, fun a rest hp hr => ?_⟩
  · rw [step_noCall hc hp, wireTurn_decoded ho hd]
  · rw [step_inCall hc hp, waitTurn_xfer hr, wireTurn_decoded ho hd]

/-! ### The record of the past -/

/-- `u` follows `s` in a step: the history has grown, `REFUSED` is set if it was, and no command in progress has touched `RES`. -/
structure KeepsRecord (s u : State) : Prop where
  hist : s.hist <+: u.hist
  refused : s.refused = true → u.refused = true
  res : u.cmd ≠ none → u.res = s.res

theorem keepsRecord_kept (s : State) : Kept (KeepsRecord s) where
  record _ _ h := ⟨h.hist.trans (List.prefix_append _ _), h.refused, h.res⟩
  receive _ _ _ h := ⟨h.hist, h.refused, h.res⟩
  receiveNothing _ h := ⟨h.hist, h.refused, h.res⟩
  endCall _ h := ⟨h.hist, h.refused, h.res⟩
  issue _ _ h := ⟨h.hist, h.refused, h.res⟩
  issueXfer _ _ h := ⟨h.hist, h.refused, h.res⟩
  issueBatch _ _ h := ⟨h.hist, h.refused, h.res⟩
  setSeq _ _ h := ⟨h.hist, h.refused, h.res⟩
  setPhase _ _ h := ⟨h.hist, h.refused, h.res⟩
  setChannel _ _ h := ⟨h.hist, h.refused, h.res⟩
  freshHandle _ h := ⟨h.hist, h.refused, h.res⟩
  dropHandle _ h := ⟨h.hist, h.refused, h.res⟩
  finish _ _ h := ⟨h.hist, h.refused, fun hc => absurd rfl hc⟩
  raiseError _ _ h := ⟨h.hist, h.refused, fun hc => absurd rfl hc⟩
  loseFrames _ h := ⟨h.hist, h.refused, h.res⟩
  loseBuffers _ h := ⟨h.hist, h.refused, h.res⟩
  setReplies _ _ h := ⟨h.hist, h.refused, h.res⟩

/-- The start of a command is made of the shared operations, its own refusal and `DEBUG <- b`. -/
theorem startOf_keeps {P : State → Prop} (h : Kept P) (hr : ∀ r s, P s → P (refuseAdmitted r s))
    (hd : ∀ b s, P s → P (setDebug b s)) (c : Instr) (hs : P s) : P (startOf c s) := by
  have setdbg (d : Byte) : P (startSetdbg d s) := by
    unfold startSetdbg
    split
    · exact hr _ _ hs
    · exact h.finish _ _ (hd _ _ hs)
  have rdreg (a : Byte) : P (startRdreg a s) := by
    unfold startRdreg
    split
    · exact h.raiseAccess _ hs
    · exact h.issueXfer _ _ hs
  have wrreg (a v : Byte) : P (startWrreg a v s) := by
    unfold startWrreg
    split
    · exact h.raiseAccess _ hs
    · exact h.issueXfer _ _ hs
  have init : P (startInit s) := by
    unfold startInit
    split
    · exact h.issueXfer _ _ hs
    · exact hr _ _ hs
  cases c with
  | openCh bus cs => exact h.issue _ _ hs
  | closeCh => exact h.issue _ _ hs
  | setdbg d => exact setdbg d
  | rdreg a => exact rdreg a
  | wrreg a v => exact wrreg a v
  | rdregs addrs => exact h.startBatchRead addrs hs
  | wrregs pairs => exact h.startBatchWrite pairs hs
  | init => exact init
  | rdsample => exact h.issueBatch _ _ hs
  | rdf addr => exact hs
  | wrf addr val => exact hs

theorem step_keepsRecord (h : step s = .next t) : KeepsRecord s t := by
  have kept := keepsRecord_kept s
  cases step_cases h with
  | waited presented replies => exact ⟨List.prefix_rfl, id, fun _ => rfl⟩
  | refused r presented replies => exact ⟨List.prefix_rfl, fun _ => rfl, fun _ => rfl⟩
  | command presented replies format wellFormed admitted =>
    refine kept.run (startOf_keeps kept (fun r u hu => ?_) (fun b u hu => ?_) _ ?_)
    · exact ⟨hu.hist, fun _ => rfl, fun hc => absurd rfl hc⟩
    · exact ⟨hu.hist, hu.refused, hu.res⟩
    · exact ⟨List.prefix_rfl, id, fun _ => rfl⟩
  | frame busy outbuf call => exact kept.run ⟨List.prefix_rfl, id, fun _ => rfl⟩
  | returned busy => exact kept.run ⟨List.prefix_rfl, id, fun _ => rfl⟩

/-- Settles O51: every operation a step is made of keeps the record. -/
theorem historyMarkAndResultAreKept : Obligations.HistoryMarkAndResultAreKept := by
  intro s t h
  obtain ⟨⟨events, hh⟩, refused, res⟩ := step_keepsRecord h
  exact ⟨⟨events, hh.symm⟩, refused, res⟩

end Sys2Proof.Proofs
end

section
/-! PROOFS. The machine's invariant (spec/10_state.md R21 to R33, R40): what a returned call and an admitted command can leave in
a state of the invariant, said once, and what a step keeps of the handle and of the stage of `INIT`. -/

namespace Sys2Proof.Proofs

open Sys2Proof.Machine

variable {s t u : State}

/-! ### What a returned call can leave -/

/-- There is no handle, and it carries no flags (R40). -/
structure NoHandleLeft (u : State) : Prop where
  isOpen : u.isOpen = false
  ch : u.ch = none
  xcfg : u.xcfg = none
  unusable : u.unusable = false
  debug : u.debug = false

/-- What is left when a call returns to the command in progress in `s`. -/
inductive AfterReturn (s : State) : State → Prop
  | openGoesOn {u : State} {bus cs : Byte} (still : u.cmd = some (.openCh bus cs)) (waits : WaitsIn (.openCh bus cs) u)
      (wasClosed : s.isOpen = false) (xcfg : u.xcfg = s.xcfg) (unusable : u.unusable = s.unusable)
      (debug : u.debug = s.debug) : AfterReturn s u
  | opened {u : State} (wasClosed : s.isOpen = false) (idle : Idle u) (isOpen : u.isOpen = true) (ch : u.ch.isSome = true)
      (xcfg : u.xcfg = some xcfgConst) (phase : u.phase = .uninitialized) (usable : u.unusable = false) : AfterReturn s u
  | closed {u : State} (idle : Idle u) (handle : NoHandleLeft u) : AfterReturn s u
  | accessEnds {u : State} (wasOpen : s.isOpen = true) (notInit : s.cmd ≠ some .init) (idle : Idle u)
      (handle : SameHandle s u) : AfterReturn s u
  | initGoesOn {u : State} (was : s.cmd = some .init) (still : u.cmd = some .init) (waits : WaitsIn .init u)
      (channel : SameChannel s u) (stage : seqCode s.seq ≤ seqCode u.seq) : AfterReturn s u
  | initEnds {u : State} (was : s.cmd = some .init) (wasOpen : s.isOpen = true) (idle : Idle u) (channel : SameChannel s u)
      (outcome : u.unusable = true ∧ u.phase = s.phase ∨ u.unusable = false ∧ u.phase = .configured) : AfterReturn s u

/-- The event of the returned call and its end change nothing `AfterReturn` speaks of. -/
theorem AfterReturn.ofRecord {e : Event} (h : AfterReturn (record e (endCall s)) u) : AfterReturn s u := by
  cases h with
  | openGoesOn still waits wasClosed xcfg unusable debug => exact .openGoesOn still waits wasClosed xcfg unusable debug
  | opened wasClosed idle isOpen ch xcfg phase usable => exact .opened wasClosed idle isOpen ch xcfg phase usable
  | closed idle handle => exact .closed idle handle
  | accessEnds wasOpen notInit idle handle =>
    obtain ⟨⟨ho, hch, hx⟩, phase, unusable, debug⟩ := handle
    exact .accessEnds wasOpen notInit idle ⟨⟨ho, hch, hx⟩, phase, unusable, debug⟩
  | initGoesOn was still waits channel stage =>
    obtain ⟨ho, hch, hx⟩ := channel
    exact .initGoesOn was still waits ⟨ho, hch, hx⟩ stage
  | initEnds was wasOpen idle channel outcome =>
    obtain ⟨ho, hch, hx⟩ := channel
    exact .initEnds was wasOpen idle ⟨ho, hch, hx⟩ outcome

theorem returned_xfer_cases {f : Frame} (ho : s.outbuf = [f]) (a : Answer) :
    returned .xfer a s = raiseAccess (.transportError .transfer) (receiveNothing (record (.xfer f none) (endCall s))) ∨
      ∃ r, returned .xfer a s = xferDelivered r (record (.xfer f (some r)) (endCall s)) := by
  cases ha : answerOne a with
  | none => exact .inl (returned_xfer_fail ho ha)
  | some r => exact .inr ⟨r, by simp [returned, xferReturned, ho, ha]⟩

theorem answerMany_length {n : Nat} {a : Answer} {ins : List Frame} (h : answerMany n a = some ins) : ins.length = n := by
  cases a with
  | fail => cases h
  | ok fs =>
    simp only [answerMany, Option.ite_none_right_eq_some, Option.some.injEq] at h
    obtain ⟨hl, rfl⟩ := h
    exact hl

theorem returned_batch_cases {outs : List Frame} (ho : s.outbuf = outs) (a : Answer) :
    returned .xferBatch a s =
        raiseAccess (.transportError .transferBatch) (receiveNothing (record (.xferBatch outs none) (endCall s))) ∨
      ∃ ins, ins.length = outs.length ∧
        returned .xferBatch a s = batchDelivered ins (record (.xferBatch outs (some ins)) (endCall s)) := by
  subst ho
  cases ha : answerMany s.outbuf.length a with
  | none => exact .inl (returned_batch_fail ha)
  | some ins => exact .inr ⟨ins, answerMany_length ha, by simp [returned, batchReturned, ha]⟩

/-! ### `OPEN` and `CLOSE` -/

theorem noHandleLeft_openFails {bus cs : Byte} {e : ErrorRec} (hc : t.cmd = some (.openCh bus cs)) :
    NoHandleLeft (raiseError e (dropHandle t)) :=
  ⟨rfl, rfl, rfl, by simp [hc], rfl⟩

theorem open_returned {bus cs : Byte} {p : Pending} (hc : s.cmd = some (.openCh bus cs)) (hw : WaitsIn (.openCh bus cs) s)
    (hp : s.call = some p) (a : Answer) : AfterReturn s (returned p a s) := by
  obtain ⟨hq, ho, ⟨hcall, hch⟩ | ⟨hcall, hch⟩⟩ := hw
  · obtain rfl : p = .tOpen := Option.some.inj (hp.symm.trans hcall)
    simp only [returned, handleCallReturned_open (s := endCall s) hc, openReturned]
    split
    · exact .openGoesOn hc ⟨hq, ho, .inr ⟨.inl rfl, rfl⟩⟩ ho rfl rfl rfl
    · exact .closed ⟨rfl, rfl, rfl⟩ (noHandleLeft_openFails hc)
  · obtain rfl | rfl : p = .tConfigure ∨ p = .tRelease := by simpa [hp] using hcall
    · simp only [returned, handleCallReturned_open (s := endCall s) hc, configureReturned]
      split
      · exact .opened ho ⟨rfl, rfl, rfl⟩ rfl (Option.isSome_of_eq_some hch) rfl rfl rfl
      · exact .openGoesOn hc ⟨hq, ho, .inr ⟨.inr rfl, hch⟩⟩ ho rfl rfl rfl
    · simp only [returned, releaseReturned_open (s := endCall s) hc]
      exact .closed ⟨rfl, rfl, rfl⟩ (noHandleLeft_openFails hc)

theorem close_returned (hc : s.cmd = some .closeCh) (a : Answer) : AfterReturn s (returned .tRelease a s) := by
  simp only [returned, releaseReturned_close (s := endCall s) hc]
  exact .closed ⟨rfl, rfl, rfl⟩ ⟨rfl, rfl, rfl, rfl, rfl⟩

/-! ### The register accesses and `RDSAMPLE` -/

theorem receive_sameHandle (good : Frame → Bool) (ins : List Frame) (s : State) : SameHandle s (receive good ins s) :=
  ⟨⟨rfl, rfl, rfl⟩, rfl, rfl, rfl⟩

theorem sampleOf_five {vals : List Byte} (h : vals.length = 5) : ∃ m, sampleOf vals = some m := by
  match vals, h with
  | [_, _, _, _, _], _ => exact ⟨_, rfl⟩

section Access

variable (ho : s.isOpen = true) (hc : s.cmd ≠ some .init)

include ho hc

theorem access_error {e : ErrorRec} (h : SameHandle s t) (ht : t.cmd = s.cmd) : AfterReturn s (raiseAccess e t) :=
  .accessEnds ho hc ⟨rfl, rfl, rfl⟩ (raiseAccess_sameHandle h (ht ▸ hc) e t.replies)

theorem access_value {v : Value} (h : SameHandle s t) : AfterReturn s (returnValue v t) :=
  .accessEnds ho hc ⟨rfl, rfl, rfl⟩ (returnValue_sameHandle h v t.replies)

theorem rdregReturned_cases (r : Frame) : AfterReturn s (rdregReturned r s) := by
  have same := receive_sameHandle readOk [r] s
  unfold rdregReturned; dsimp only
  split
  · exact access_error ho hc same rfl
  · exact access_value ho hc same

theorem wrregReturned_cases (v : Byte) (r : Frame) : AfterReturn s (wrregReturned v r s) := by
  have same := receive_sameHandle (writeOk true) [r] s
  unfold wrregReturned; dsimp only
  split
  · exact access_error ho hc same rfl
  · exact access_value ho hc same

theorem rdregsReturned_cases (ins : List Frame) : AfterReturn s (rdregsReturned ins s) := by
  have same := receive_sameHandle readOk ins s
  unfold rdregsReturned; dsimp only
  split
  · exact access_error ho hc same rfl
  · exact access_value ho hc same

theorem wrregsReturned_cases (ins : List Frame) : AfterReturn s (wrregsReturned ins s) := by
  have same := receive_sameHandle (writeOk wbCheckByte1) ins s
  unfold wrregsReturned; dsimp only
  split
  · exact access_error ho hc same rfl
  · exact access_value ho hc same

/-- Five frames came back, so there is a sample (R117). -/
theorem rdsampleReturned_cases {ins : List Frame} (hl : ins.length = 5) : AfterReturn s (rdsampleReturned ins s) := by
  have same := receive_sameHandle readOk ins s
  unfold rdsampleReturned; dsimp only
  split
  next e _ => exact access_error ho hc same rfl
  next vals hv =>
    obtain ⟨m, hm⟩ := sampleOf_five ((validateReadFrom_length hv).trans hl)
    rw [hm]
    exact access_value ho hc same

theorem access_xfer {f : Frame} (hout : s.outbuf = [f])
    (delivered : ∀ r t, t.isOpen = true → t.cmd = s.cmd → AfterReturn t (xferDelivered r t)) (a : Answer) :
    AfterReturn s (returned .xfer a s) := by
  obtain h | ⟨r, h⟩ := returned_xfer_cases hout a <;> rw [h]
  · exact access_error ho hc ⟨⟨rfl, rfl, rfl⟩, rfl, rfl, rfl⟩ rfl
  · exact .ofRecord (e := .xfer f (some r)) (delivered r _ ho rfl)

theorem access_batch {outs : List Frame} (hout : s.outbuf = outs)
    (delivered : ∀ ins t, ins.length = outs.length → t.isOpen = true → t.cmd = s.cmd →
      AfterReturn t (batchDelivered ins t)) (a : Answer) :
    AfterReturn s (returned .xferBatch a s) := by
  obtain h | ⟨ins, hl, h⟩ := returned_batch_cases hout a <;> rw [h]
  · exact access_error ho hc ⟨⟨rfl, rfl, rfl⟩, rfl, rfl, rfl⟩ rfl
  · exact .ofRecord (e := .xferBatch outs (some ins)) (delivered ins _ hl ho rfl)

end Access

theorem access_returned {c : Instr} {p : Pending × List Frame} (hc : s.cmd = some c) (hi : c ≠ .init)
    (ho : s.isOpen = true) (hin : inFlight c s.seq = some p) (hout : s.outbuf = p.2) (a : Answer) :
    AfterReturn s (returned p.1 a s) := by
  have notInit {t : State} (ht : t.cmd = s.cmd) : t.cmd ≠ some .init := by simpa [ht, hc] using hi
  cases c with
  | rdreg b =>
    obtain ⟨-, rfl⟩ : s.seq = .run ∧ (.xfer, [readFrame b]) = p := by simpa [inFlight] using hin
    refine access_xfer ho (notInit rfl) hout (fun r t hto ht => ?_) a
    rw [xferDelivered_rdreg (ht.trans hc)]
    exact rdregReturned_cases hto (notInit ht) r
  | wrreg b v =>
    obtain ⟨-, rfl⟩ : s.seq = .run ∧ (.xfer, [writeFrame b v]) = p := by simpa [inFlight] using hin
    refine access_xfer ho (notInit rfl) hout (fun r t hto ht => ?_) a
    rw [xferDelivered_wrreg (ht.trans hc)]
    exact wrregReturned_cases hto (notInit ht) v r
  | rdregs addrs =>
    obtain ⟨-, rfl⟩ : s.seq = .run ∧ (.xferBatch, readFrames addrs) = p := by simpa [inFlight] using hin
    refine access_batch ho (notInit rfl) hout (fun ins t _ hto ht => ?_) a
    rw [batchDelivered_rdregs (ht.trans hc)]
    exact rdregsReturned_cases hto (notInit ht) ins
  | wrregs pairs =>
    obtain ⟨-, rfl⟩ : s.seq = .run ∧ (.xferBatch, writeFrames pairs) = p := by simpa [inFlight] using hin
    refine access_batch ho (notInit rfl) hout (fun ins t _ hto ht => ?_) a
    rw [batchDelivered_wrregs (ht.trans hc)]
    exact wrregsReturned_cases hto (notInit ht) ins
  | rdsample =>
    obtain ⟨-, rfl⟩ : s.seq = .run ∧ (.xferBatch, readFrames motionRegs) = p := by simpa [inFlight] using hin
    refine access_batch ho (notInit rfl) hout (fun ins t hl hto ht => ?_) a
    rw [batchDelivered_rdsample (ht.trans hc)]
    exact rdsampleReturned_cases hto (notInit ht) hl
  | init => exact absurd rfl hi
  | openCh _ _ | closeCh | setdbg _ | rdf _ | wrf _ _ => cases hin

/-! ### The stages of `INIT` -/

/-- `INIT` is at stage `q`, with the frames of that stage in `OUTBUF`. -/
structure AtStage (q : Seq) (s : State) : Prop where
  cmd : s.cmd = some .init
  isOpen : s.isOpen = true
  usable : s.unusable = false
  seq : s.seq = q
  phase : s.phase = initPhase q
  outbuf : ∀ p, initInFlight q = some p → s.outbuf = p.2

theorem AtStage.afterCall {q : Seq} (h : AtStage q s) (e : Event) : AtStage q (record e (endCall s)) :=
  ⟨h.cmd, h.isOpen, h.usable, h.seq, h.phase, h.outbuf⟩

section Stages

variable {q : Seq}

theorem stage_fails {e : ErrorRec} (h : AtStage q s) (hc : t.cmd = s.cmd) (hch : SameChannel s t) (hp : t.phase = s.phase) :
    AfterReturn s (raiseAccess e t) :=
  .initEnds h.cmd h.isOpen ⟨rfl, rfl, rfl⟩ ⟨hch.isOpen, hch.ch, hch.xcfg⟩ (.inl ⟨by simp [hc, h.cmd], hp⟩)

/-- The next stage's call has been issued. -/
theorem stage_goesOn (h : AtStage q s) {q' : Seq} (hq : seqCode q ≤ seqCode q') (h' : AtStage q' u)
    (hch : SameChannel s u) {p : Pending × List Frame} (hin : initInFlight q' = some p) (hcall : u.call = some p.1) :
    AfterReturn s u := by
  obtain ⟨cmd, isOpen, usable, rfl, phase, outbuf⟩ := h'
  exact .initGoesOn h.cmd cmd ⟨isOpen, usable, trivial, fun _ => phase, p, hin, hcall, outbuf p hin⟩ hch (h.seq ▸ hq)

theorem logIfDebug_eq (item : LogItem) (v : Byte) (s : State) : ∃ hist, logIfDebug item v s = { s with hist := hist } := by
  unfold logIfDebug
  split
  · exact ⟨_, rfl⟩
  · exact ⟨s.hist, rfl⟩

theorem porReturned_cases (h : AtStage .por s) (r : Frame) : AfterReturn s (porReturned r s) := by
  unfold porReturned; dsimp only
  split
  · exact stage_fails h rfl ⟨rfl, rfl, rfl⟩ rfl
  · exact stage_goesOn h (q' := .pid) (by decide) ⟨h.cmd, h.isOpen, h.usable, rfl, h.phase, fun _ hp => by cases hp; rfl⟩
      ⟨rfl, rfl, rfl⟩ rfl rfl

theorem pidReturned_cases (h : AtStage .pid s) (r : Frame) : AfterReturn s (pidReturned r s) := by
  unfold pidReturned; dsimp only
  split
  · exact stage_fails h rfl ⟨rfl, rfl, rfl⟩ rfl
  next vals _ =>
    obtain ⟨hist, hl⟩ := logIfDebug_eq .productId (vals.headD r.b1) (receive readOk [r] s)
    rw [hl]
    split
    · exact stage_fails h rfl ⟨rfl, rfl, rfl⟩ rfl
    · exact stage_goesOn h (q' := .ipid) (by decide) ⟨h.cmd, h.isOpen, h.usable, rfl, h.phase, fun _ hp => by cases hp; rfl⟩
        ⟨rfl, rfl, rfl⟩ rfl rfl

theorem enterB1_eq (s : State) : enterB1 s = issueBatch (writeFrames batch1) (setSeq .b1 s) := startBatchWrite_table _ _

theorem enterB2_eq (s : State) : enterB2 s = issueBatch (writeFrames batch2) (setSeq .b2 s) := startBatchWrite_table _ _

theorem ipidReturned_cases (h : AtStage .ipid s) (r : Frame) : AfterReturn s (ipidReturned r s) := by
  unfold ipidReturned; dsimp only
  split
  · exact stage_fails h rfl ⟨rfl, rfl, rfl⟩ rfl
  next vals _ =>
    obtain ⟨hist, hl⟩ := logIfDebug_eq .inverseProductId (vals.headD r.b1) (receive readOk [r] s)
    rw [hl, enterB1_eq]
    split
    · exact stage_fails h rfl ⟨rfl, rfl, rfl⟩ rfl
    · exact stage_goesOn h (q' := .b1) (by decide) ⟨h.cmd, h.isOpen, h.usable, rfl, rfl, fun _ hp => by cases hp; rfl⟩
        ⟨rfl, rfl, rfl⟩ rfl rfl

theorem b1Returned_cases (h : AtStage .b1 s) (ins : List Frame) : AfterReturn s (b1Returned ins s) := by
  unfold b1Returned; dsimp only
  split
  · exact stage_fails h rfl ⟨rfl, rfl, rfl⟩ rfl
  · exact stage_goesOn h (q' := .delay) (by decide)
      ⟨h.cmd, h.isOpen, h.usable, rfl, h.phase, fun _ hp => by cases hp; exact h.outbuf (.xferBatch, writeFrames batch1) rfl⟩
      ⟨rfl, rfl, rfl⟩ rfl rfl

theorem enterB2_cases (h : AtStage .delay s) : AfterReturn s (enterB2 s) := by
  rw [enterB2_eq]
  exact stage_goesOn h (q' := .b2) (by decide) ⟨h.cmd, h.isOpen, h.usable, rfl, h.phase, fun _ hp => by cases hp; rfl⟩
    ⟨rfl, rfl, rfl⟩ rfl rfl

theorem b2Returned_cases (h : AtStage .b2 s) (ins : List Frame) : AfterReturn s (b2Returned ins s) := by
  unfold b2Returned; dsimp only
  split
  · exact stage_fails h rfl ⟨rfl, rfl, rfl⟩ rfl
  · exact .initEnds h.cmd h.isOpen ⟨rfl, rfl, rfl⟩ ⟨rfl, rfl, rfl⟩ (.inr ⟨h.usable, rfl⟩)

theorem stage_xfer (h : AtStage q s) {f : Frame} (hout : s.outbuf = [f])
    (delivered : ∀ r t, AtStage q t → AfterReturn t (xferDelivered r t)) (a : Answer) :
    AfterReturn s (returned .xfer a s) := by
  obtain hr | ⟨r, hr⟩ := returned_xfer_cases hout a <;> rw [hr]
  · exact stage_fails h rfl ⟨rfl, rfl, rfl⟩ rfl
  · exact (delivered r _ (h.afterCall _)).ofRecord

theorem stage_batch (h : AtStage q s) (delivered : ∀ ins t, AtStage q t → AfterReturn t (batchDelivered ins t)) (a : Answer) :
    AfterReturn s (returned .xferBatch a s) := by
  obtain hr | ⟨ins, -, hr⟩ := returned_batch_cases rfl a <;> rw [hr]
  · exact stage_fails h rfl ⟨rfl, rfl, rfl⟩ rfl
  · exact (delivered ins _ (h.afterCall _)).ofRecord

end Stages

theorem init_returned {p : Pending} (hc : s.cmd = some .init) (hw : WaitsIn .init s) (hp : s.call = some p) (a : Answer) :
    AfterReturn s (returned p a s) := by
  obtain ⟨ho, hu, -, hphase, ⟨p', outs⟩, hin, hcall, hout⟩ := hw
  obtain rfl : p = p' := Option.some.inj (hp.symm.trans hcall)
  have at_stage : AtStage s.seq s :=
    ⟨hc, ho, hu, rfl, hphase rfl, fun o hin' => by rw [hout, Option.some.inj (hin.symm.trans hin')]⟩
  replace hin : initInFlight s.seq = some (p, outs) := hin
  generalize hq : s.seq = q at hin at_stage
  cases q with
  | por =>
    cases hin
    exact stage_xfer at_stage hout (fun r t h => xferDelivered_por h.cmd h.seq r ▸ porReturned_cases h r) a
  | pid =>
    cases hin
    exact stage_xfer at_stage hout (fun r t h => xferDelivered_pid h.cmd h.seq r ▸ pidReturned_cases h r) a
  | ipid =>
    cases hin
    exact stage_xfer at_stage hout (fun r t h => xferDelivered_ipid h.cmd h.seq r ▸ ipidReturned_cases h r) a
  | b1 =>
    cases hin
    exact stage_batch at_stage (fun ins t h => batchDelivered_b1 h.cmd h.seq ins ▸ b1Returned_cases h ins) a
  | delay =>
    cases hin
    simp only [returned, delayEnded_init (s := endCall s) hc, delayReturned]
    exact (enterB2_cases (at_stage.afterCall _)).ofRecord
  | b2 =>
    cases hin
    exact stage_batch at_stage (fun ins t h => batchDelivered_b2 h.cmd h.seq ins ▸ b2Returned_cases h ins) a
  | idle => cases hin
  | run => cases hin

/-- A command in progress in a state of the invariant waits in the call that returns. -/
theorem returned_cases (h : Inv s) {p : Pending} (hp : s.call = some p) (a : Answer) : AfterReturn s (returned p a s) := by
  cases hc : s.cmd with
  | none => rw [(h.idle hc).noCall] at hp; cases hp
  | some c =>
    have hw := h.busy c hc
    cases c with
    | openCh bus cs => exact open_returned hc hw hp a
    | closeCh =>
      obtain ⟨-, -, hcall⟩ := hw
      obtain rfl : p = .tRelease := Option.some.inj (hp.symm.trans hcall)
      exact close_returned hc a
    | init => exact init_returned hc hw hp a
    | _ =>
      obtain ⟨ho, -, -, -, p', hin, hcall, hout⟩ := hw
      obtain rfl : p = p'.1 := Option.some.inj (hp.symm.trans hcall)
      exact access_returned hc nofun ho hin hout a

/-! ### What an admitted command can leave before its first call returns -/

/-- An admitted command waits in its first call, or it has ended on its open handle without one. -/
inductive AfterStart (c : Instr) (s : State) : State → Prop
  | waits {u : State} (begun : u.cmd = some c) (waits : WaitsIn c u) (handle : SameHandle s u) (caller : SameCaller s u) :
      AfterStart c s u
  | ends {u : State} (wasOpen : s.isOpen = true) (idle : Idle u) (channel : SameChannel s u) (phase : u.phase = s.phase)
      (unusable : u.unusable = s.unusable) (marked : s.refused = s.reason.isSome → u.refused = u.reason.isSome) :
      AfterStart c s u

theorem admitted_noCommand {c : Instr} (h : admission c s = none) : s.cmd = none := by
  unfold admission at h
  split_ifs at h with busy
  simpa [isBusy] using busy

theorem admitted_isOpen {c : Instr} (h : admission c s = none) (hc : ∀ bus cs, c ≠ .openCh bus cs) : s.isOpen = true := by
  unfold admission at h
  split_ifs at h with _ notOpen
  cases c with
  | openCh bus cs => exact absurd rfl (hc bus cs)
  | _ => simpa using notOpen

theorem admitted_isClosed {bus cs : Byte} (h : admission (.openCh bus cs) s = none) : s.isOpen = false := by
  unfold admission at h
  split_ifs at h with _ _ alreadyOpen
  simpa using alreadyOpen

theorem admitted_usable {c : Instr} (h : admission c s = none) (hc : c ≠ .closeCh) : s.unusable = false := by
  unfold admission at h
  split_ifs at h with _ _ _ unusable
  cases c with
  | closeCh => exact absurd rfl hc
  | _ => simpa using unusable

theorem legal_of_firstIllegal {addrs : List Byte} {i : Nat} (h : firstIllegal i addrs = none) :
    ∀ a ∈ addrs, isIllegalAddr a = false := by
  induction addrs generalizing i with
  | nil => simp
  | cons a addrs ih =>
    unfold firstIllegal at h
    split_ifs at h with ha
    exact List.forall_mem_cons.mpr ⟨by simpa using ha, ih h⟩

section Starts

variable {c : Instr}

theorem start_refuses (ho : s.isOpen = true) (r : RefuseReason) : AfterStart c s (refuseAdmitted r (begin c s)) :=
  .ends ho ⟨rfl, rfl, rfl⟩ ⟨rfl, rfl, rfl⟩ rfl rfl fun _ => rfl

theorem start_raises {e : ErrorRec} (ho : s.isOpen = true) (hc : c ≠ .init) : AfterStart c s (raiseAccess e (begin c s)) :=
  .ends ho ⟨rfl, rfl, rfl⟩ ⟨rfl, rfl, rfl⟩ rfl (by simp [hc]) id

/-- The command waits in its first call, which has changed nothing of the handle. -/
theorem start_issues {p : Pending} {outs : List Frame} (h : WaitsIn c (issue p { begin c s with outbuf := outs })) :
    AfterStart c s (issue p { begin c s with outbuf := outs }) :=
  .waits rfl h ⟨⟨rfl, rfl, rfl⟩, rfl, rfl, rfl⟩ ⟨rfl, rfl, rfl⟩

section Usable

variable (ho : s.isOpen = true) (hu : s.unusable = false)

include ho

theorem startSetdbg_cases (d : Byte) : AfterStart (.setdbg d) s (startSetdbg d (begin (.setdbg d) s)) := by
  unfold startSetdbg
  split
  · exact start_refuses ho _
  · exact .ends ho ⟨rfl, rfl, rfl⟩ ⟨rfl, rfl, rfl⟩ rfl rfl id

include hu

theorem startRdreg_cases (a : Byte) : AfterStart (.rdreg a) s (startRdreg a (begin (.rdreg a) s)) := by
  unfold startRdreg
  split
  · exact start_raises ho nofun
  next legal => exact start_issues ⟨ho, hu, Bool.eq_false_iff.mpr legal, nofun, _, rfl, rfl, rfl⟩

theorem startWrreg_cases (a v : Byte) : AfterStart (.wrreg a v) s (startWrreg a v (begin (.wrreg a v) s)) := by
  unfold startWrreg
  split
  · exact start_raises ho nofun
  next legal => exact start_issues ⟨ho, hu, Bool.eq_false_iff.mpr legal, nofun, _, rfl, rfl, rfl⟩

theorem startRdregs_cases (addrs : List Byte) :
    AfterStart (.rdregs addrs) s (startRdregs addrs (begin (.rdregs addrs) s)) := by
  unfold startRdregs startBatchRead
  split
  · exact start_raises ho nofun
  next legal => exact start_issues ⟨ho, hu, legal_of_firstIllegal legal, nofun, _, rfl, rfl, rfl⟩

theorem startWrregs_cases (pairs : List (Byte × Byte)) :
    AfterStart (.wrregs pairs) s (startWrregs pairs (begin (.wrregs pairs) s)) := by
  unfold startWrregs startBatchWrite
  split
  · exact start_raises ho nofun
  next legal =>
    exact start_issues ⟨ho, hu, List.forall_mem_map.mp (legal_of_firstIllegal legal), nofun, _, rfl, rfl, rfl⟩

theorem startInit_cases : AfterStart .init s (startInit (begin .init s)) := by
  unfold startInit
  split
  next phase => exact start_issues ⟨ho, hu, trivial, fun _ => phase, _, rfl, rfl, rfl⟩
  · exact start_refuses ho _

end Usable

theorem startOf_cases (hch : s.isOpen = false → s.ch = none) (hf : c.format = .cmd) (ha : admission c s = none) :
    AfterStart c s (startOf c (begin c s)) := by
  have ho := admitted_isOpen ha
  have hu := admitted_usable ha
  cases c with
  | openCh bus cs =>
    have closed := admitted_isClosed ha
    exact start_issues (outs := s.outbuf) ⟨rfl, closed, .inl ⟨rfl, hch closed⟩⟩
  | closeCh => exact start_issues (outs := s.outbuf) ⟨rfl, ho fun _ _ => nofun, rfl⟩
  | setdbg d => exact startSetdbg_cases (ho fun _ _ => nofun) d
  | rdreg a => exact startRdreg_cases (ho fun _ _ => nofun) (hu nofun) a
  | wrreg a v => exact startWrreg_cases (ho fun _ _ => nofun) (hu nofun) a v
  | rdregs addrs => exact startRdregs_cases (ho fun _ _ => nofun) (hu nofun) addrs
  | wrregs pairs => exact startWrregs_cases (ho fun _ _ => nofun) (hu nofun) pairs
  | init => exact startInit_cases (ho fun _ _ => nofun) (hu nofun)
  | rdsample => exact start_issues ⟨ho fun _ _ => nofun, hu nofun, trivial, nofun, _, rfl, rfl, rfl⟩
  | rdf addr => cases hf
  | wrf addr val => cases hf

end Starts

/-! ### The invariant -/

/-- The invariant of an idle state speaks of the handle and of `REFUSED` alone. -/
theorem inv_idle (idle : Idle u) (opened : u.isOpen = true → u.ch.isSome = true ∧ u.xcfg = some xcfgConst)
    (closed : u.isOpen = false → NoHandleLeft u) (identified : u.isOpen = true → u.phase = .identified → u.unusable = true)
    (unusable : u.unusable = true → u.phase ≠ .configured) (marked : u.refused = u.reason.isSome) : Inv u where
  idle _ := idle
  busy c hc := by cases idle.noCommand.symm.trans hc
  encodable c hc := by cases idle.noCommand.symm.trans hc
  opened := opened
  closed ho := ⟨(closed ho).xcfg, (closed ho).unusable, (closed ho).debug⟩
  channel ho _ := (closed ho).ch
  identified ho hp _ := identified ho hp
  unusable := unusable
  marked := marked

/-- The invariant of a state with a command in progress. -/
theorem inv_busy {c : Instr} (hc : u.cmd = some c) (waits : WaitsIn c u) (wellFormed : c.WellFormed)
    (opened : u.isOpen = true → u.ch.isSome = true ∧ u.xcfg = some xcfgConst)
    (closed : u.isOpen = false → u.xcfg = none ∧ u.unusable = false ∧ u.debug = false)
    (identified : u.isOpen = true → u.phase = .identified → c ≠ .init → u.unusable = true)
    (unusable : u.unusable = true → u.phase ≠ .configured) (marked : u.refused = u.reason.isSome) : Inv u where
  idle hn := by cases hn.symm.trans hc
  busy c' hc' := by obtain rfl := Option.some.inj (hc.symm.trans hc'); exact waits
  encodable c' hc' := by obtain rfl := Option.some.inj (hc.symm.trans hc'); exact wellFormed
  opened := opened
  closed := closed
  channel _ hn := by cases hn.symm.trans hc
  identified ho hp hi := identified ho hp fun h => hi (h ▸ hc)
  unusable := unusable
  marked := marked

theorem sameCaller_marked (h : SameCaller s u) (hs : s.refused = s.reason.isSome) : u.refused = u.reason.isSome := by
  rw [h.refused, h.reason, hs]

theorem sameChannel_opened (h : SameChannel s u) (hi : Inv s) (ho : s.isOpen = true) :
    u.ch.isSome = true ∧ u.xcfg = some xcfgConst := by
  rw [h.ch, h.xcfg]
  exact hi.opened ho

/-- A command has ended on the open handle it had. -/
theorem inv_endsOpen (h : Inv s) (ho : s.isOpen = true) (idle : Idle u) (channel : SameChannel s u)
    (identified : u.phase = .identified → u.unusable = true) (unusable : u.unusable = true → u.phase ≠ .configured)
    (marked : u.refused = u.reason.isSome) : Inv u :=
  inv_idle idle (fun _ => sameChannel_opened channel h ho) (fun hc => by rw [channel.isOpen, ho] at hc; cases hc)
    (fun _ => identified) unusable marked

theorem inv_afterReturn (h : Inv s) (caller : SameCaller s u) (hr : AfterReturn s u) : Inv u := by
  have marked := sameCaller_marked caller h.marked
  cases hr with
  | openGoesOn still waits wasClosed xcfg unusable debug =>
    obtain ⟨-, ho, -⟩ := id waits
    obtain ⟨hx, hu, hd⟩ := h.closed wasClosed
    have usable := unusable.trans hu
    exact inv_busy still waits rfl (by simp [ho]) (fun _ => ⟨xcfg.trans hx, usable, Eq.trans debug hd⟩) (by simp [ho])
      (by simp [usable]) marked
  | opened wasClosed idle isOpen ch xcfg phase usable =>
    exact inv_idle idle (fun _ => ⟨ch, xcfg⟩) (by simp [isOpen]) (by simp [phase]) (by simp [phase]) marked
  | closed idle handle =>
    obtain ⟨ho, -, -, usable, -⟩ := id handle
    exact inv_idle idle (by simp [ho]) (fun _ => handle) (by simp [ho]) (by simp [usable]) marked
  | accessEnds wasOpen notInit idle handle =>
    refine inv_endsOpen h wasOpen idle handle.channel ?_ ?_ marked
    · rw [handle.phase, handle.unusable]
      exact fun hp => h.identified wasOpen hp notInit
    · rw [handle.phase, handle.unusable]
      exact h.unusable
  | initGoesOn was still waits channel stage =>
    obtain ⟨ho, usable, -⟩ := id waits
    exact inv_busy still waits rfl (fun _ => sameChannel_opened channel h (channel.isOpen.symm.trans ho)) (by simp [ho])
      (fun _ _ hi => absurd rfl hi) (by simp [usable]) marked
  | initEnds was wasOpen idle channel outcome =>
    obtain ⟨unusable, phase⟩ | ⟨usable, phase⟩ := outcome
    · obtain ⟨-, -, -, hp, -⟩ := h.busy _ was
      have notConfigured : u.phase ≠ .configured := by
        rw [phase, hp rfl]
        cases s.seq <;> nofun
      exact inv_endsOpen h wasOpen idle channel (fun _ => unusable) (fun _ => notConfigured) marked
    · exact inv_endsOpen h wasOpen idle channel (by simp [phase]) (by simp [usable]) marked

theorem sameCaller_kept (s : State) : Kept (SameCaller s) where
  record _ _ h := ⟨h.presented, h.refused, h.reason⟩
  receive _ _ _ h := ⟨h.presented, h.refused, h.reason⟩
  receiveNothing _ h := ⟨h.presented, h.refused, h.reason⟩
  endCall _ h := ⟨h.presented, h.refused, h.reason⟩
  issue _ _ h := ⟨h.presented, h.refused, h.reason⟩
  issueXfer _ _ h := ⟨h.presented, h.refused, h.reason⟩
  issueBatch _ _ h := ⟨h.presented, h.refused, h.reason⟩
  setSeq _ _ h := ⟨h.presented, h.refused, h.reason⟩
  setPhase _ _ h := ⟨h.presented, h.refused, h.reason⟩
  setChannel _ _ h := ⟨h.presented, h.refused, h.reason⟩
  freshHandle _ h := ⟨h.presented, h.refused, h.reason⟩
  dropHandle _ h := ⟨h.presented, h.refused, h.reason⟩
  finish _ _ h := ⟨h.presented, h.refused, h.reason⟩
  raiseError _ _ h := ⟨h.presented, h.refused, h.reason⟩
  loseFrames _ h := ⟨h.presented, h.refused, h.reason⟩
  loseBuffers _ h := ⟨h.presented, h.refused, h.reason⟩
  setReplies _ _ h := ⟨h.presented, h.refused, h.reason⟩

theorem inv_returned (h : Inv s) {p : Pending} (hp : s.call = some p) (a : Answer) : Inv (returned p a s) :=
  inv_afterReturn h ((sameCaller_kept s).returned p a (.refl s)) (returned_cases h hp a)

theorem inv_withInputs (h : Inv s) (presented : List (List Byte)) (replies : List Reply) :
    Inv (withInputs presented replies s) where
  idle hn := ⟨(h.idle hn).noCommand, (h.idle hn).noStage, (h.idle hn).noCall⟩
  busy := h.busy
  encodable := h.encodable
  opened := h.opened
  closed := h.closed
  channel := h.channel
  identified := h.identified
  unusable := h.unusable
  marked := h.marked

theorem inv_refuse (h : Inv s) (r : RefuseReason) : Inv (refuse r s) where
  idle hn := ⟨(h.idle hn).noCommand, (h.idle hn).noStage, (h.idle hn).noCall⟩
  busy := h.busy
  encodable := h.encodable
  opened := h.opened
  closed := h.closed
  channel := h.channel
  identified := h.identified
  unusable := h.unusable
  marked := rfl

theorem inv_setReplies (h : Inv s) (replies : List Reply) : Inv (setReplies replies s) :=
  inv_withInputs h s.presented replies

theorem inv_run (h : Inv s) : Inv (run s) :=
  drain_induction (fun _ replies h => inv_setReplies h replies) (fun _ _ a h hp => inv_returned h hp a) _ _ h

theorem inv_afterStart {c : Instr} (h : Inv s) (hn : s.cmd = none) (wellFormed : c.WellFormed) (hs : AfterStart c s u) :
    Inv u := by
  have identified (ho : s.isOpen = true) (hp : s.phase = .identified) : s.unusable = true :=
    h.identified ho hp (by simp [hn])
  cases hs with
  | waits begun waits handle caller =>
    obtain ⟨channel, phase, unusable, debug⟩ := handle
    refine inv_busy begun waits wellFormed (fun ho => sameChannel_opened channel h (channel.isOpen.symm.trans ho)) ?_ ?_ ?_
      (sameCaller_marked caller h.marked)
    · rw [channel.isOpen, channel.xcfg, unusable, debug]
      exact h.closed
    · rw [channel.isOpen, phase, unusable]
      exact fun ho hp _ => identified ho hp
    · rw [phase, unusable]
      exact h.unusable
  | ends wasOpen idle channel phase unusable marked =>
    refine inv_endsOpen h wasOpen idle channel ?_ ?_ (marked h.marked)
    · rw [phase, unusable]
      exact identified wasOpen
    · rw [phase, unusable]
      exact h.unusable

/-! ### What a step of a state of the invariant can do -/

/-- A frame already in its transfer is issued again without a change. -/
theorem issueXfer_inFlight (h : Inv s) {f : Frame} (busy : s.cmd ≠ none) (ho : s.outbuf = [f])
    (hp : s.call = none ∨ s.call = some .xfer) : issueXfer f s = s := by
  obtain ⟨c, hc⟩ := Option.ne_none_iff_exists'.mp busy
  obtain ⟨p, hcall⟩ := waitsIn_call (h.busy c hc)
  have hx : s.call = some .xfer := by simpa [hcall] using hp
  rw [issueXfer, issue, ← ho, ← hx]

/-- A step of a state of the invariant: nothing but inputs used up, a refusal, an admitted command that starts and runs, or the
command in progress that runs. -/
inductive InvStep (s : State) : State → Prop
  | waited (presented : List (List Byte)) (replies : List Reply) : InvStep s (withInputs presented replies s)
  | refused (r : RefuseReason) (presented : List (List Byte)) (replies : List Reply) :
      InvStep s (refuse r (withInputs presented replies s))
  | command {c : Instr} {u : State} (presented : List (List Byte)) (replies : List Reply) (noCommand : s.cmd = none)
      (started : AfterStart c (withInputs presented replies s) u) (inv : Inv u) : InvStep s (run u)
  | returned (busy : s.cmd ≠ none) : InvStep s (run s)

theorem step_invStep (h : Inv s) (hs : step s = .next t) : InvStep s t := by
  cases step_cases hs with
  | waited presented replies => exact .waited presented replies
  | refused r presented replies => exact .refused r presented replies
  | command presented replies format wellFormed admitted =>
    have noCommand := admitted_noCommand admitted
    have started := startOf_cases (s := withInputs presented replies s) (fun ho => h.channel ho noCommand) format admitted
    exact .command presented replies noCommand started
      (inv_afterStart (inv_withInputs h presented replies) noCommand wellFormed started)
  | frame busy outbuf call => rw [issueXfer_inFlight h busy outbuf call]; exact .returned busy
  | returned busy => exact .returned busy

/-- Settles O46: each thing a step can do keeps the invariant. -/
theorem stepKeepsTheInvariant : Obligations.StepKeepsTheInvariant := by
  intro s t h hs
  cases step_invStep h hs with
  | waited presented replies => exact inv_withInputs h presented replies
  | refused r presented replies => exact inv_refuse (inv_withInputs h presented replies) r
  | command presented replies noCommand started inv => exact inv_run inv
  | returned busy => exact inv_run h

/-- Settles O45: no command is in progress and there is no handle. -/
theorem invariantAtReset : Obligations.InvariantAtReset :=
  inv_idle ⟨rfl, rfl, rfl⟩ nofun (fun _ => ⟨rfl, rfl, rfl, rfl, rfl⟩) nofun nofun rfl

/-! ### What a step keeps of an open handle -/

/-- The handle of `u` is that of `s`, which has only advanced. -/
structure Advances (s u : State) : Prop where
  phase : (phaseCode s.phase).toNat ≤ (phaseCode u.phase).toNat
  unusable : s.unusable = true → u.unusable = true
  xcfg : u.xcfg = s.xcfg
  ch : u.ch = s.ch

theorem Advances.refl (s : State) : Advances s s := ⟨le_refl _, id, rfl, rfl⟩

theorem Advances.trans (h : Advances s t) (h' : Advances t u) : Advances s u :=
  ⟨h.phase.trans h'.phase, fun hs => h'.unusable (h.unusable hs), h'.xcfg.trans h.xcfg, h'.ch.trans h.ch⟩

theorem advances_of_channel (h : SameChannel s u) (hp : (phaseCode s.phase).toNat ≤ (phaseCode u.phase).toNat)
    (hu : s.unusable = true → u.unusable = true) : Advances s u :=
  ⟨hp, hu, h.xcfg, h.ch⟩

theorem advances_of_same (h : SameChannel s u) (hp : u.phase = s.phase) (hu : u.unusable = s.unusable) :
    Advances s u :=
  advances_of_channel h (by rw [hp]) (by rw [hu]; exact id)

theorem phaseCode_le_configured (p : Phase) : (phaseCode p).toNat ≤ (phaseCode .configured).toNat := by
  cases p <;> decide

theorem phaseCode_initPhase (q : Seq) : (phaseCode (initPhase q)).toNat = if seqCode q ≤ 2 then 0 else 1 := by
  cases q <;> rfl

theorem initPhase_advances {q q' : Seq} (h : seqCode q ≤ seqCode q') :
    (phaseCode (initPhase q)).toNat ≤ (phaseCode (initPhase q')).toNat := by
  rw [phaseCode_initPhase, phaseCode_initPhase]
  split_ifs <;> omega

/-- The handle open in `s` is still open and has only advanced, or it is gone and no command is in progress. -/
def OpenOrGone (s u : State) : Prop := u.isOpen = true ∧ Advances s u ∨ u.isOpen = false ∧ u.cmd = none

theorem openOrGone_afterReturn (h : Inv s) (ho : s.isOpen = true) (hr : AfterReturn s u) : OpenOrGone s u := by
  cases hr with
  | openGoesOn still waits wasClosed xcfg unusable debug => cases wasClosed.symm.trans ho
  | opened wasClosed idle isOpen ch xcfg phase usable => cases wasClosed.symm.trans ho
  | closed idle handle => exact .inr ⟨handle.isOpen, idle.noCommand⟩
  | accessEnds wasOpen notInit idle handle =>
    exact .inl ⟨handle.channel.isOpen.trans ho, advances_of_same handle.channel handle.phase handle.unusable⟩
  | initGoesOn was still waits channel stage =>
    obtain ⟨-, usable, -, phase, -⟩ := h.busy _ was
    obtain ⟨isOpen, -, -, phase', -⟩ := waits
    refine .inl ⟨isOpen, advances_of_channel channel ?_ (by simp [usable])⟩
    rw [phase rfl, phase' rfl]
    exact initPhase_advances stage
  | initEnds was wasOpen idle channel outcome =>
    refine .inl ⟨channel.isOpen.trans ho, ?_⟩
    obtain ⟨unusable, phase⟩ | ⟨-, phase⟩ := outcome
    · exact advances_of_channel channel (by rw [phase]) fun _ => unusable
    · obtain ⟨-, usable, -⟩ := h.busy _ was
      exact advances_of_channel channel (by rw [phase]; exact phaseCode_le_configured _) (by simp [usable])

/-- A run advances the open handle or ends with it: once it is gone no call is in progress, so nothing opens another. -/
theorem openOrGone_run (h : Inv u) (hs : OpenOrGone s u) : OpenOrGone s (run u) := by
  refine (drain_induction (P := fun u => Inv u ∧ OpenOrGone s u) ?_ ?_ u.replies u ⟨h, hs⟩).2
  · rintro u replies ⟨h, hs⟩
    refine ⟨inv_setReplies h replies, hs.imp (fun ⟨ho, had⟩ => ⟨ho, ?_⟩) id⟩
    exact ⟨had.phase, had.unusable, had.xcfg, had.ch⟩
  · rintro u p a ⟨h, hs⟩ hp
    refine ⟨inv_returned h hp a, ?_⟩
    obtain ⟨ho, had⟩ | ⟨-, hn⟩ := hs
    · exact (openOrGone_afterReturn h ho (returned_cases h hp a)).imp (fun ⟨ho', had'⟩ => ⟨ho', had.trans had'⟩) id
    · rw [(h.idle hn).noCall] at hp
      cases hp

theorem AfterStart.advances {c : Instr} (h : AfterStart c s u) : u.isOpen = s.isOpen ∧ Advances s u := by
  cases h with
  | waits begun waits handle caller =>
    exact ⟨handle.channel.isOpen, advances_of_same handle.channel handle.phase handle.unusable⟩
  | ends wasOpen idle channel phase unusable marked => exact ⟨channel.isOpen, advances_of_same channel phase unusable⟩

theorem openOrGone_step (h : Inv s) (ho : s.isOpen = true) (hs : step s = .next t) : OpenOrGone s t := by
  cases step_invStep h hs with
  | waited presented replies => exact .inl ⟨ho, ⟨le_refl _, id, rfl, rfl⟩⟩
  | refused r presented replies => exact .inl ⟨ho, ⟨le_refl _, id, rfl, rfl⟩⟩
  | command presented replies noCommand started inv =>
    obtain ⟨isOpen, phase, unusable, xcfg, ch⟩ := started.advances
    exact openOrGone_run inv (.inl ⟨isOpen.trans ho, phase, unusable, xcfg, ch⟩)
  | returned busy => exact openOrGone_run h (.inl ⟨ho, .refl s⟩)

/-- Settles O52: the handle after the step is open, so it is the one before it, and has only advanced. -/
theorem openHandleOnlyAdvances : Obligations.OpenHandleOnlyAdvances := by
  intro s t h hs ho ho'
  obtain ⟨-, phase, unusable, xcfg, ch⟩ | ⟨closed, -⟩ := openOrGone_step h ho hs
  · exact ⟨phase, unusable, xcfg, ch⟩
  · cases closed.symm.trans ho'

/-! ### What a step keeps of the stage of `INIT` -/

/-- `INIT` is still in progress at a stage not before that of `s`, or it has ended. -/
def InitOrEnded (s u : State) : Prop := u.cmd = some .init ∧ seqCode s.seq ≤ seqCode u.seq ∨ u.cmd = none

theorem initOrEnded_afterReturn (h : Inv s) (hc : s.cmd = some .init) (hr : AfterReturn s u) : InitOrEnded s u := by
  cases hr with
  | openGoesOn still waits wasClosed xcfg unusable debug =>
    obtain ⟨isOpen, -⟩ := h.busy _ hc
    cases wasClosed.symm.trans isOpen
  | opened wasClosed idle isOpen ch xcfg phase usable => exact .inr idle.noCommand
  | closed idle handle => exact .inr idle.noCommand
  | accessEnds wasOpen notInit idle handle => exact .inr idle.noCommand
  | initGoesOn was still waits channel stage => exact .inl ⟨still, stage⟩
  | initEnds was wasOpen idle channel outcome => exact .inr idle.noCommand

theorem initOrEnded_run (h : Inv s) (hc : s.cmd = some .init) : InitOrEnded s (run s) := by
  refine (drain_induction (P := fun u => Inv u ∧ InitOrEnded s u) ?_ ?_ s.replies s ⟨h, .inl ⟨hc, le_refl _⟩⟩).2
  · rintro u replies ⟨h, hs⟩
    exact ⟨inv_setReplies h replies, hs⟩
  · rintro u p a ⟨h, hs⟩ hp
    refine ⟨inv_returned h hp a, ?_⟩
    obtain ⟨hi, hle⟩ | hn := hs
    · exact (initOrEnded_afterReturn h hi (returned_cases h hp a)).imp (fun ⟨hi', hle'⟩ => ⟨hi', hle.trans hle'⟩) id
    · rw [(h.idle hn).noCall] at hp
      cases hp

/-- Settles O53: a step with `INIT` in progress leaves it alone or runs it. -/
theorem initStagesOnlyAdvance : Obligations.InitStagesOnlyAdvance := by
  intro s t h hs hc hc'
  cases step_invStep h hs with
  | waited presented replies => exact le_refl _
  | refused r presented replies => exact le_refl _
  | command presented replies noCommand started inv => cases noCommand.symm.trans hc
  | returned busy =>
    obtain ⟨-, stage⟩ | ended := initOrEnded_run h hc
    · exact stage
    · cases ended.symm.trans hc'

end Sys2Proof.Proofs
end

section
/-! PROOFS. The debug flag (spec/10_state.md R29): forgetting `DEBUG` and the debug output commutes with everything a step does,
because the flag is read in `logIfDebug` alone, which writes nothing but debug output. -/

namespace Sys2Proof.Proofs

open Sys2Proof.Machine

/-! ### `eraseDebug` and the shared operations -/

theorem eraseDebug_idem (s : State) : eraseDebug (eraseDebug s) = eraseDebug s := by
  simp [eraseDebug]

theorem eraseDebug_record {e : Event} (h : e.isLog = false) (s : State) :
    eraseDebug (record e s) = record e (eraseDebug s) := by
  simp [eraseDebug, record, h]

theorem eraseDebug_record_log {e : Event} (h : e.isLog = true) (s : State) : eraseDebug (record e s) = eraseDebug s := by
  simp [eraseDebug, record, h]

theorem eraseDebug_logIfDebug (item : LogItem) (v : Byte) (s : State) :
    eraseDebug (logIfDebug item v s) = logIfDebug item v (eraseDebug s) := by
  have quiet : logIfDebug item v (eraseDebug s) = eraseDebug s := rfl
  rw [quiet]
  unfold logIfDebug
  split
  · exact eraseDebug_record_log rfl s
  · rfl

theorem eraseDebug_receive (good : Frame → Bool) (ins : List Frame) (s : State) :
    eraseDebug (receive good ins s) = receive good ins (eraseDebug s) := rfl

theorem eraseDebug_endCall (s : State) : eraseDebug (endCall s) = endCall (eraseDebug s) := rfl

theorem eraseDebug_startBatchRead (addrs : List Byte) (s : State) :
    eraseDebug (startBatchRead addrs s) = startBatchRead addrs (eraseDebug s) := by
  unfold startBatchRead; split <;> rfl

theorem eraseDebug_startBatchWrite (pairs : List (Byte × Byte)) (s : State) :
    eraseDebug (startBatchWrite pairs s) = startBatchWrite pairs (eraseDebug s) := by
  unfold startBatchWrite; split <;> rfl

/-! ### What a returned call does -/

theorem eraseDebug_pidReturned (r : Frame) (s : State) :
    eraseDebug (pidReturned r s) = pidReturned r (eraseDebug s) := by
  unfold pidReturned; dsimp only
  rw [← eraseDebug_receive]
  split
  · rfl
  · rw [← eraseDebug_logIfDebug]; split <;> rfl

theorem eraseDebug_ipidReturned (r : Frame) (s : State) :
    eraseDebug (ipidReturned r s) = ipidReturned r (eraseDebug s) := by
  unfold ipidReturned; dsimp only
  rw [← eraseDebug_receive]
  split
  · rfl
  · rw [← eraseDebug_logIfDebug]
    split
    · rfl
    · exact eraseDebug_startBatchWrite _ _

theorem eraseDebug_initXferReturned (r : Frame) (s : State) :
    eraseDebug (initXferReturned r s) = initXferReturned r (eraseDebug s) := by
  have hq : (eraseDebug s).seq = s.seq := rfl
  unfold initXferReturned
  rw [hq]
  cases s.seq with
  | por => dsimp only; unfold porReturned; dsimp only; split <;> rfl
  | pid => exact eraseDebug_pidReturned r s
  | ipid => exact eraseDebug_ipidReturned r s
  | _ => rfl

theorem eraseDebug_xferDelivered (r : Frame) (s : State) :
    eraseDebug (xferDelivered r s) = xferDelivered r (eraseDebug s) := by
  have hc : (eraseDebug s).cmd = s.cmd := rfl
  unfold xferDelivered
  rw [hc]
  cases s.cmd with
  | none => rfl
  | some c =>
    cases c with
    | rdreg a => dsimp only; unfold rdregReturned; dsimp only; split <;> rfl
    | wrreg a v => dsimp only; unfold wrregReturned; dsimp only; split <;> rfl
    | init => exact eraseDebug_initXferReturned r s
    | _ => rfl

theorem eraseDebug_initBatchReturned (ins : List Frame) (s : State) :
    eraseDebug (initBatchReturned ins s) = initBatchReturned ins (eraseDebug s) := by
  have hq : (eraseDebug s).seq = s.seq := rfl
  unfold initBatchReturned
  rw [hq]
  split
  · unfold b1Returned; dsimp only; split <;> rfl
  · unfold b2Returned; dsimp only; split <;> rfl
  · rfl

theorem eraseDebug_batchDelivered (ins : List Frame) (s : State) :
    eraseDebug (batchDelivered ins s) = batchDelivered ins (eraseDebug s) := by
  have hc : (eraseDebug s).cmd = s.cmd := rfl
  unfold batchDelivered
  rw [hc]
  split
  · unfold rdregsReturned; dsimp only; split <;> rfl
  · unfold wrregsReturned; dsimp only; split <;> rfl
  · unfold rdsampleReturned; dsimp only
    split
    · rfl
    · split <;> rfl
  · exact eraseDebug_initBatchReturned ins s
  · rfl

theorem eraseDebug_xferReturned (a : Answer) (s : State) :
    eraseDebug (xferReturned a s) = xferReturned a (eraseDebug s) := by
  have ho : (eraseDebug s).outbuf = s.outbuf := rfl
  unfold xferReturned
  rw [ho]
  cases s.outbuf with
  | nil => rfl
  | cons f fs =>
    dsimp only
    rw [← eraseDebug_record rfl]
    cases answerOne a with
    | none => rfl
    | some r => exact eraseDebug_xferDelivered r _

theorem eraseDebug_batchReturned (a : Answer) (s : State) :
    eraseDebug (batchReturned a s) = batchReturned a (eraseDebug s) := by
  have ho : (eraseDebug s).outbuf = s.outbuf := rfl
  unfold batchReturned; dsimp only
  rw [ho, ← eraseDebug_record rfl]
  cases answerMany s.outbuf.length a with
  | none => rfl
  | some ins => exact eraseDebug_batchDelivered ins _

theorem eraseDebug_openReturned (bus cs : Byte) (a : Answer) (s : State) :
    eraseDebug (openReturned bus cs a s) = openReturned bus cs a (eraseDebug s) := by
  unfold openReturned; dsimp only
  rw [← eraseDebug_record rfl]
  split <;> rfl

theorem eraseDebug_configureReturned (a : Answer) (s : State) :
    eraseDebug (configureReturned a s) = configureReturned a (eraseDebug s) := by
  unfold configureReturned; dsimp only
  rw [← eraseDebug_record rfl]
  split <;> rfl

theorem eraseDebug_handleCallReturned {f : Byte → Byte → Answer → State → State}
    (hf : ∀ bus cs a s, eraseDebug (f bus cs a s) = f bus cs a (eraseDebug s)) (a : Answer) (s : State) :
    eraseDebug (handleCallReturned f a s) = handleCallReturned f a (eraseDebug s) := by
  have hc : (eraseDebug s).cmd = s.cmd := rfl
  unfold handleCallReturned
  rw [hc]
  split
  · exact hf _ _ _ _
  · rfl

theorem eraseDebug_releaseReturned (s : State) : eraseDebug (releaseReturned s) = releaseReturned (eraseDebug s) := by
  have hc : (eraseDebug s).cmd = s.cmd := rfl
  unfold releaseReturned
  rw [hc]
  cases s.cmd with
  | none => rfl
  | some c =>
    cases c with
    | openCh bus cs => dsimp only; unfold openReleased; rw [← eraseDebug_record rfl]; rfl
    | closeCh => dsimp only; unfold closeReleased; rw [← eraseDebug_record rfl]; rfl
    | _ => rfl

theorem eraseDebug_delayEnded (s : State) : eraseDebug (delayEnded s) = delayEnded (eraseDebug s) := by
  have hc : (eraseDebug s).cmd = s.cmd := rfl
  unfold delayEnded
  rw [hc]
  split
  · unfold delayReturned; rw [← eraseDebug_record rfl]; exact eraseDebug_startBatchWrite _ _
  · rfl

theorem eraseDebug_returned (p : Pending) (a : Answer) (s : State) :
    eraseDebug (returned p a s) = returned p a (eraseDebug s) := by
  unfold returned; dsimp only
  rw [← eraseDebug_endCall]
  cases p with
  | tOpen => exact eraseDebug_handleCallReturned eraseDebug_openReturned a _
  | tConfigure => exact eraseDebug_handleCallReturned (fun _ _ => eraseDebug_configureReturned) a _
  | tRelease => exact eraseDebug_releaseReturned _
  | xfer => exact eraseDebug_xferReturned a _
  | xferBatch => exact eraseDebug_batchReturned a _
  | delay => exact eraseDebug_delayEnded _

theorem eraseDebug_drain (rs : List Reply) (s : State) : eraseDebug (drain rs s) = drain rs (eraseDebug s) := by
  induction rs generalizing s with
  | nil => rfl
  | cons r rs ih =>
    have hcall : (eraseDebug s).call = s.call := rfl
    cases hc : s.call with
    | none => rw [drain_noCall hc, drain_noCall (hcall.trans hc)]; rfl
    | some p =>
      cases r with
      | pending => rw [drain_pending, drain_pending]; rfl
      | answer a => rw [drain_answer hc, drain_answer (hcall.trans hc), ih, eraseDebug_returned]

theorem eraseDebug_run (s : State) : eraseDebug (run s) = run (eraseDebug s) := eraseDebug_drain s.replies s

/-! ### The instructions and the step -/

theorem eraseDebug_startRdreg (a : Byte) (s : State) : eraseDebug (startRdreg a s) = startRdreg a (eraseDebug s) := by
  unfold startRdreg; split <;> rfl

theorem eraseDebug_startWrreg (a v : Byte) (s : State) :
    eraseDebug (startWrreg a v s) = startWrreg a v (eraseDebug s) := by
  unfold startWrreg; split <;> rfl

theorem eraseDebug_startInit (s : State) : eraseDebug (startInit s) = startInit (eraseDebug s) := by
  have hp : (eraseDebug s).phase = s.phase := rfl
  unfold startInit
  rw [hp]
  split <;> rfl

/-- `SETDBG` writes the flag itself, so its start only agrees once the flag is forgotten again. -/
theorem eraseDebug_startSetdbg (d : Byte) (s : State) :
    eraseDebug (startSetdbg d s) = eraseDebug (startSetdbg d (eraseDebug s)) := by
  unfold startSetdbg
  split
  · exact (eraseDebug_idem (refuseAdmitted _ s)).symm
  · exact (eraseDebug_idem (finish _ s)).symm

theorem eraseDebug_startOf (c : Instr) (s : State) :
    eraseDebug (startOf c s) = eraseDebug (startOf c (eraseDebug s)) := by
  have commutes {f : State → State} (hf : ∀ s, eraseDebug (f s) = f (eraseDebug s)) :
      eraseDebug (f s) = eraseDebug (f (eraseDebug s)) := by
    rw [hf, hf, eraseDebug_idem]
  cases c with
  | openCh bus cs => exact commutes fun _ => rfl
  | closeCh => exact commutes fun _ => rfl
  | setdbg d => exact eraseDebug_startSetdbg d s
  | rdreg a => exact commutes (eraseDebug_startRdreg a)
  | wrreg a v => exact commutes (eraseDebug_startWrreg a v)
  | rdregs addrs => exact commutes (eraseDebug_startBatchRead addrs)
  | wrregs pairs => exact commutes (eraseDebug_startBatchWrite pairs)
  | init => exact commutes eraseDebug_startInit
  | rdsample => exact commutes fun _ => rfl
  | rdf addr => exact commutes fun _ => rfl
  | wrf addr val => exact commutes fun _ => rfl

/-- An outcome without what `DEBUG` is allowed to change (R29). -/
def eraseOutcome : Host.Outcome State Fault Refusal → Host.Outcome State Fault Refusal
  | .next s => .next (eraseDebug s)
  | .fault f => .fault f
  | .refused r => .refused r

theorem sameButDebug_of_erased {o p : Host.Outcome State Fault Refusal} (h : eraseOutcome o = eraseOutcome p) :
    SameButDebug o p := by
  cases o with
  | next s =>
    cases p with
    | next t => exact Host.Outcome.next.inj h
    | _ => cases h
  | fault f =>
    cases p with
    | fault g => exact Host.Outcome.fault.inj h
    | _ => cases h
  | refused r =>
    cases p with
    | refused r' => exact Host.Outcome.refused.inj h
    | _ => cases h

theorem command_erased (c : Instr) (s : State) :
    eraseOutcome (command c (startOf c) s) = eraseOutcome (command c (startOf c) (eraseDebug s)) := by
  have same : admission c (eraseDebug s) = admission c s := rfl
  cases ha : admission c s with
  | some r =>
    rw [command_refused ha, command_refused (same.trans ha)]
    exact congrArg Host.Outcome.next (eraseDebug_idem (refuse r s)).symm
  | none =>
    rw [command_admitted ha, command_admitted (same.trans ha)]
    refine congrArg Host.Outcome.next ?_
    rw [eraseDebug_run, eraseDebug_run, eraseDebug_startOf]
    rfl

theorem wireFrame_erased (f : Frame) (s : State) :
    eraseOutcome (wireFrame f s) = eraseOutcome (wireFrame f (eraseDebug s)) := by
  by_cases h : isBusy s = true ∧ (s.call = none ∨ s.call = some .xfer)
  · have here : wireFrame f s = .next (run (issueXfer f s)) := if_pos h
    have there : wireFrame f (eraseDebug s) = .next (run (issueXfer f (eraseDebug s))) := if_pos h
    rw [here, there]
    refine congrArg Host.Outcome.next ?_
    rw [eraseDebug_run, eraseDebug_run]
    exact congrArg run (eraseDebug_idem (issueXfer f s)).symm
  · have here : wireFrame f s = .refused .frameOutsideTransfer := if_neg h
    have there : wireFrame f (eraseDebug s) = .refused .frameOutsideTransfer := if_neg h
    rw [here, there]

theorem exec_erased (i : Instr) (s : State) : eraseOutcome (exec i s) = eraseOutcome (exec i (eraseDebug s)) := by
  cases i with
  | rdf addr => exact wireFrame_erased _ s
  | wrf addr val => exact wireFrame_erased _ s
  | _ => exact command_erased _ s

theorem callerTurn_erased (s : State) : eraseOutcome (callerTurn s) = eraseOutcome (callerTurn (eraseDebug s)) := by
  have same : (eraseDebug s).presented = s.presented := rfl
  cases hp : s.presented with
  | nil =>
    rw [callerTurn_nothing hp, callerTurn_nothing (same.trans hp)]
    exact congrArg Host.Outcome.next (eraseDebug_idem s).symm
  | cons bytes later =>
    cases hd : decodeCmd bytes with
    | error e =>
      rw [callerTurn_rejected hp hd, callerTurn_rejected (same.trans hp) hd]
      exact congrArg Host.Outcome.next (eraseDebug_idem (refuse _ { s with presented := later })).symm
    | ok d =>
      rw [callerTurn_decoded hp hd, callerTurn_decoded (same.trans hp) hd]
      exact exec_erased d.1 _

theorem wireTurn_erased (s : State) : eraseOutcome (wireTurn s) = eraseOutcome (wireTurn (eraseDebug s)) := by
  have same : (eraseDebug s).outbuf = s.outbuf := rfl
  unfold wireTurn
  rw [same]
  split
  next f _ =>
    cases decodeFrame f with
    | ok i => exact exec_erased i s
    | error e => rfl
  next => rfl

theorem waitTurn_erased (p : Pending) (s : State) :
    eraseOutcome (waitTurn p s) = eraseOutcome (waitTurn p (eraseDebug s)) := by
  have same : (eraseDebug s).replies = s.replies := rfl
  cases hr : s.replies with
  | nil =>
    cases hs : s.presented with
    | nil => rw [waitTurn_hung p hr hs, waitTurn_hung p (same.trans hr) hs]
    | cons bytes later =>
      rw [waitTurn_noAnswer p hr hs, waitTurn_noAnswer p (same.trans hr) hs]
      exact callerTurn_erased s
  | cons r more =>
    cases r with
    | pending =>
      rw [waitTurn_pending p hr, waitTurn_pending p (same.trans hr)]
      exact callerTurn_erased { s with replies := more }
    | answer a =>
      by_cases hx : p = .xfer
      · subst hx
        rw [waitTurn_xfer hr, waitTurn_xfer (same.trans hr)]
        exact wireTurn_erased s
      · rw [waitTurn_answer hx hr, waitTurn_answer hx (same.trans hr)]
        refine congrArg Host.Outcome.next ?_
        rw [eraseDebug_run, eraseDebug_run, eraseDebug_idem]

theorem step_erased (s : State) : eraseOutcome (step s) = eraseOutcome (step (eraseDebug s)) := by
  cases hc : s.cmd with
  | none =>
    have hc' : (eraseDebug s).cmd = none := hc
    rw [step_idle hc, step_idle hc']
    exact callerTurn_erased s
  | some c =>
    have hc' : (eraseDebug s).cmd = some c := hc
    cases hp : s.call with
    | none =>
      have hp' : (eraseDebug s).call = none := hp
      rw [step_noCall hc hp, step_noCall hc' hp']
      exact wireTurn_erased s
    | some p =>
      have hp' : (eraseDebug s).call = some p := hp
      rw [step_inCall hc hp, step_inCall hc' hp']
      exact waitTurn_erased p s

/-- Settles O57: each outcome is determined, but for the flag and the debug output, by the state without them. -/
theorem debugFlagHasNoOtherEffect : Obligations.DebugFlagHasNoOtherEffect := by
  intro s t h
  refine ⟨fun i => sameButDebug_of_erased ?_, sameButDebug_of_erased ?_⟩
  · rw [exec_erased i s, h, ← exec_erased i t]
  · rw [step_erased s, h, ← step_erased t]

end Sys2Proof.Proofs
end

section
/-! PROOFS. The numeric views and the reset state: where `K` stops at a failing validation (spec/10_state.md R24), the state at
instantiation (R40) and the bits of `STATUS` (R35). -/

namespace Sys2Proof.Proofs

open Sys2Proof.Machine

theorem finalIndex_good {good : Frame → Bool} {f g : Frame} {rest : List Frame} (h : good f = true) :
    finalIndex good (f :: g :: rest) = 1 + finalIndex good (g :: rest) := by
  simp [finalIndex, h]

theorem finalIndex_bad {good : Frame → Bool} {f : Frame} {rest : List Frame} (h : good f = false) :
    finalIndex good (f :: rest) = 0 := by
  cases rest with
  | nil => rfl
  | cons g rest => simp [finalIndex, h]

/-- A loop over a list whose rest fails at `finalIndex` fails at `finalIndex` itself. -/
theorem finalIndex_step {good : Frame → Bool} {f : Frame} {rest : List Frame} {j k : Nat} (h : good f = true)
    (hne : rest ≠ []) (hk : k = j + 1 + finalIndex good rest) : k = j + finalIndex good (f :: rest) := by
  obtain ⟨g, rest, rfl⟩ := List.exists_cons_of_ne_nil hne
  rw [finalIndex_good h]
  omega

theorem validateReadFrom_index {j k : Nat} {ins : List Frame} {b : Fin 2} {got : Byte}
    (h : validateReadFrom j ins = .error (.unexpectedHandshake k b got)) : k = j + finalIndex readOk ins := by
  induction ins generalizing j with
  | nil => cases h
  | cons f rest ih =>
    by_cases hf : f.b0 = handshake
    · have hrest : validateReadFrom (j + 1) rest = .error (.unexpectedHandshake k b got) := by
        rw [validateReadFrom_cons_ok hf] at h
        cases hv : validateReadFrom (j + 1) rest with
        | ok vals => rw [hv] at h; cases h
        | error e => rw [hv] at h; cases h; rfl
      exact finalIndex_step (by simp [readOk, hf]) (by rintro rfl; cases hrest) (ih hrest)
    · rw [validateReadFrom_cons_bad hf] at h
      cases h
      rw [finalIndex_bad (by simp [readOk, hf])]
      rfl

theorem validateWriteFrom_index {check1 : Bool} {j k : Nat} {ins : List Frame} {b : Fin 2} {got : Byte}
    (h : validateWriteFrom check1 j ins = .error (.unexpectedHandshake k b got)) :
    k = j + finalIndex (writeOk check1) ins := by
  induction ins generalizing j with
  | nil => cases h
  | cons f rest ih =>
    unfold validateWriteFrom at h
    split_ifs at h with hbad0 hbad1
    · cases h
      rw [finalIndex_bad (by simp [writeOk, hbad0])]
      rfl
    · cases h
      rw [finalIndex_bad (by simp [writeOk, hbad1])]
      rfl
    · refine finalIndex_step ?_ (by rintro rfl; cases h) (ih h)
      cases check1 <;> simp_all [writeOk]

/-- Settles O14: both validations start at index 0, where `K` counts from. -/
theorem frameIndexIsRecordedInTheError : Obligations.FrameIndexIsRecordedInTheError := by
  intro s ins k b got
  refine ⟨fun h => ?_, fun check1 h => ?_⟩
  · rw [receive_k, validateReadFrom_index h, Nat.zero_add]
  · rw [receive_k, validateWriteFrom_index h, Nat.zero_add]

/-- Settles O43: the fields of the state at instantiation. -/
theorem resetStateIsTheTables : Obligations.ResetStateIsTheTables :=
  ⟨rfl, rfl, rfl, rfl, rfl, rfl, rfl, rfl, rfl, rfl, rfl⟩

/-- Settles O44: for each phase, `STATUS` is a word of six flags. -/
theorem statusBits : Obligations.StatusBits := by
  intro s
  unfold status isBusy
  generalize s.isOpen = o, s.unusable = u, s.debug = d, s.cmd.isSome = b, s.refused = r
  cases s.phase with
  | uninitialized => revert o u d b r; decide
  | identified => revert o u d b r; decide
  | configured => revert o u d b r; decide

end Sys2Proof.Proofs
end

section
/-! PROOFS. The settling delay (spec/20_memory.md R56, spec/41_device_controller.md R110, R115): the history between the two
configuration batches of `INIT`. -/

namespace Sys2Proof.Proofs

open Sys2Proof.Machine

variable {s t u : State}

theorem settled_of_notInit (h : u.cmd ≠ some .init) : Settled u := fun hc => absurd hc h

theorem settled_of_idle (h : Idle u) : Settled u := settled_of_notInit (by simp [h.noCommand])

/-- Before `S_DELAY` there is nothing to say of the delay. -/
theorem settled_of_stage {q : Seq} (hq : u.seq = q) (h : seqCode q ≤ 3) : Settled u := by
  refine fun _ => ⟨fun hd => ?_, fun hb => ?_⟩
  · rw [← hq, hd] at h; exact absurd h (by decide)
  · rw [← hq, hb] at h; exact absurd h (by decide)

/-! ### What a returned call leaves of it -/

theorem settled_raiseAccess (e : ErrorRec) (s : State) : Settled (raiseAccess e s) := settled_of_idle ⟨rfl, rfl, rfl⟩

theorem settled_porReturned (r : Frame) (s : State) : Settled (porReturned r s) := by
  unfold porReturned; dsimp only
  split
  · exact settled_raiseAccess _ _
  · exact settled_of_stage (q := .pid) rfl (by decide)

theorem settled_pidReturned (r : Frame) (s : State) : Settled (pidReturned r s) := by
  unfold pidReturned; dsimp only
  split
  · exact settled_raiseAccess _ _
  · split
    · exact settled_raiseAccess _ _
    · exact settled_of_stage (q := .ipid) rfl (by decide)

theorem settled_ipidReturned (r : Frame) (s : State) : Settled (ipidReturned r s) := by
  unfold ipidReturned; dsimp only
  split
  · exact settled_raiseAccess _ _
  · split
    · exact settled_raiseAccess _ _
    · rw [enterB1_eq]; exact settled_of_stage (q := .b1) rfl (by decide)

/-- Batch 1 has returned: its exchange is the last event when the delay begins (R110). -/
theorem settled_b1Returned {ins ins' : List Frame} {h : List Event}
    (hs : s.hist = h ++ [.xferBatch (writeFrames batch1) (some ins')]) : Settled (b1Returned ins s) := by
  unfold b1Returned; dsimp only
  split
  · exact settled_raiseAccess _ _
  · exact fun _ => ⟨fun _ => ⟨h, ins', hs⟩, nofun⟩

/-- The delay has ended: its event follows the exchange of batch 1, and batch 2 is issued (R110, R111). -/
theorem settled_delayReturned {ins : List Frame} {h : List Event}
    (hs : s.hist = h ++ [.xferBatch (writeFrames batch1) (some ins)]) : Settled (delayReturned s) := by
  rw [delayReturned, enterB2_eq]
  refine fun _ => ⟨nofun, fun _ => ⟨h, ins, ?_⟩⟩
  simp [hs]

theorem settled_b2Returned (ins : List Frame) (s : State) : Settled (b2Returned ins s) := by
  unfold b2Returned; dsimp only
  split
  · exact settled_raiseAccess _ _
  · exact settled_of_idle ⟨rfl, rfl, rfl⟩

theorem settled_xfer {f : Frame} (hout : s.outbuf = [f])
    (delivered : ∀ r t, t.cmd = s.cmd → t.seq = s.seq → Settled (xferDelivered r t)) (a : Answer) :
    Settled (returned .xfer a s) := by
  obtain h | ⟨r, h⟩ := returned_xfer_cases hout a <;> rw [h]
  · exact settled_raiseAccess _ _
  · exact delivered r _ rfl rfl

theorem settled_batch {outs : List Frame} (hout : s.outbuf = outs)
    (delivered : ∀ ins t, t.cmd = s.cmd → t.seq = s.seq → t.hist = s.hist ++ [.xferBatch outs (some ins)] →
      Settled (batchDelivered ins t)) (a : Answer) :
    Settled (returned .xferBatch a s) := by
  obtain h | ⟨ins, -, h⟩ := returned_batch_cases hout a <;> rw [h]
  · exact settled_raiseAccess _ _
  · exact delivered ins _ rfl rfl rfl

theorem settled_init_returned {p : Pending} (hs : Settled s) (hc : s.cmd = some .init) (hw : WaitsIn .init s)
    (hp : s.call = some p) (a : Answer) : Settled (returned p a s) := by
  obtain ⟨-, -, -, -, ⟨p', outs⟩, hin, hcall, hout⟩ := hw
  obtain rfl : p = p' := Option.some.inj (hp.symm.trans hcall)
  replace hin : initInFlight s.seq = some (p, outs) := hin
  generalize hq : s.seq = q at hin
  cases q with
  | por =>
    cases hin
    exact settled_xfer hout (fun r t ht htq => xferDelivered_por (ht.trans hc) (htq.trans hq) r ▸ settled_porReturned r t) a
  | pid =>
    cases hin
    exact settled_xfer hout (fun r t ht htq => xferDelivered_pid (ht.trans hc) (htq.trans hq) r ▸ settled_pidReturned r t) a
  | ipid =>
    cases hin
    exact settled_xfer hout (fun r t ht htq => xferDelivered_ipid (ht.trans hc) (htq.trans hq) r ▸ settled_ipidReturned r t) a
  | b1 =>
    cases hin
    exact settled_batch hout
      (fun ins t ht htq hh => batchDelivered_b1 (ht.trans hc) (htq.trans hq) ins ▸ settled_b1Returned hh) a
  | delay =>
    cases hin
    obtain ⟨hist, ins, hh⟩ := (hs hc).1 hq
    simp only [returned, delayEnded_init (s := endCall s) hc]
    exact settled_delayReturned hh
  | b2 =>
    cases hin
    exact settled_batch hout
      (fun ins t ht htq _ => batchDelivered_b2 (ht.trans hc) (htq.trans hq) ins ▸ settled_b2Returned ins t) a
  | idle | run => cases hin

/-- A call that returns to another command leaves no `INIT` in progress. -/
theorem settled_returned (h : Inv s) (hs : Settled s) {p : Pending} (hp : s.call = some p) (a : Answer) :
    Settled (returned p a s) := by
  by_cases hc : s.cmd = some .init
  · exact settled_init_returned hs hc (h.busy _ hc) hp a
  · cases returned_cases h hp a with
    | openGoesOn still waits wasClosed xcfg unusable debug => exact settled_of_notInit (by simp [still])
    | opened wasClosed idle isOpen ch xcfg phase usable => exact settled_of_idle idle
    | closed idle handle => exact settled_of_idle idle
    | accessEnds wasOpen notInit idle handle => exact settled_of_idle idle
    | initGoesOn was still waits channel stage => exact absurd was hc
    | initEnds was wasOpen idle channel outcome => exact settled_of_idle idle

theorem settled_run (h : Inv s) (hs : Settled s) : Settled (run s) := by
  refine (drain_induction (P := fun u => Inv u ∧ Settled u) ?_ ?_ s.replies s ⟨h, hs⟩).2
  · rintro u replies ⟨h, hs⟩
    exact ⟨inv_setReplies h replies, hs⟩
  · rintro u p a ⟨h, hs⟩ hp
    exact ⟨inv_returned h hp a, settled_returned h hs hp a⟩

/-! ### What a step keeps of it -/

theorem initPhase_stage {q : Seq} {p : Pending × List Frame} (hin : initInFlight q = some p)
    (h : initPhase q ≠ .identified) : seqCode q ≤ 3 := by
  cases q with
  | por | pid | ipid => decide
  | b1 | delay | b2 => exact absurd rfl h
  | idle | run => cases hin

/-- An admitted `INIT` is at a stage of phase `Uninitialized`, because `Identified` is held between commands by an unusable
handle alone (R120). -/
theorem settled_afterStart {c : Instr} (h : Inv s) (hn : s.cmd = none) (hs : AfterStart c s u) : Settled u := by
  cases hs with
  | ends wasOpen idle channel phase unusable marked => exact settled_of_idle idle
  | waits begun waits handle caller =>
    intro hc
    obtain rfl : c = .init := Option.some.inj (begun.symm.trans hc)
    obtain ⟨isOpen, usable, -, phase, p, hin, -⟩ := waits
    refine settled_of_stage rfl (initPhase_stage hin fun identified => ?_) hc
    have unusable : s.unusable = true := h.identified (handle.channel.isOpen.symm.trans isOpen)
      (handle.phase.symm.trans ((phase rfl).trans identified)) (by simp [hn])
    cases usable.symm.trans (handle.unusable.trans unusable)

theorem settled_step (h : Inv s) (hs : Settled s) (hstep : step s = .next t) : Settled t := by
  cases step_invStep h hstep with
  | waited presented replies => exact hs
  | refused r presented replies => exact hs
  | command presented replies noCommand started inv =>
    exact settled_run inv (settled_afterStart (inv_withInputs h presented replies) noCommand started)
  | returned busy => exact settled_run h hs

/-- Settles O54: no command is in progress at instantiation, and each thing a step can do keeps what the history says. -/
theorem delayStandsBetweenTheBatches : Obligations.DelayStandsBetweenTheBatches :=
  ⟨settled_of_idle ⟨rfl, rfl, rfl⟩, fun _ _ => settled_step⟩

end Sys2Proof.Proofs
end

section
/-! PROOFS. The request frames (spec/20_memory.md R49, spec/30_encoding.md R62 to R65): what the exchange of the frame of the
command in progress leaves, said once, and how each command that waits for one goes on with the response. -/

namespace Sys2Proof.Proofs

open Sys2Proof.Machine

variable {s t u : State}

/-! ### The validation of one response frame -/

theorem validateRead_single (r : Frame) :
    validateRead [r] = if r.b0 = handshake then .ok [r.b1] else .error (.unexpectedHandshake 0 0 r.b0) := by
  split
  next good => exact validateReadFrom_cons_ok good 0 []
  next bad => exact validateReadFrom_cons_bad bad 0 []

theorem validateWrite_single (r : Frame) :
    validateWrite true [r] =
      if r.b0 ≠ handshake then .error (.unexpectedHandshake 0 0 r.b0)
      else if r.b1 ≠ handshake then .error (.unexpectedHandshake 0 1 r.b1) else .ok () := by
  simp only [validateWrite, validateWriteFrom, true_and]

/-! ### How a command goes on with its response frame -/

theorem rdregReturned_eq (r : Frame) (s : State) :
    rdregReturned r s =
      if r.b0 = handshake then returnValue (.byte r.b1) (receive readOk [r] s)
      else raiseAccess (.unexpectedHandshake 0 0 r.b0) (receive readOk [r] s) := by
  unfold rdregReturned
  rw [validateRead_single]
  split_ifs <;> rfl

theorem wrregReturned_eq (v : Byte) (r : Frame) (s : State) :
    wrregReturned v r s =
      if r.b0 ≠ handshake then raiseAccess (.unexpectedHandshake 0 0 r.b0) (receive (writeOk true) [r] s)
      else if r.b1 ≠ handshake then raiseAccess (.unexpectedHandshake 0 1 r.b1) (receive (writeOk true) [r] s)
      else returnValue (.byte v) (receive (writeOk true) [r] s) := by
  unfold wrregReturned
  rw [validateWrite_single]
  split_ifs <;> rfl

theorem porReturned_good {r : Frame} (h : r = ⟨handshake, handshake⟩) (s : State) :
    porReturned r s = enterPid (receive (writeOk true) [r] s) := by
  subst h; rfl

theorem porReturned_bad {r : Frame} (h : r ≠ ⟨handshake, handshake⟩) (s : State) :
    porReturned r s =
      raiseAccess (if r.b0 = handshake then .unexpectedHandshake 0 1 r.b1 else .unexpectedHandshake 0 0 r.b0)
        (receive (writeOk true) [r] s) := by
  unfold porReturned
  rw [validateWrite_single]
  by_cases h0 : r.b0 = handshake
  · have h1 : r.b1 ≠ handshake := fun h1 => h (by cases r; simp_all)
    simp only [h0, h1, ne_eq, not_true, not_false_eq_true, if_false, if_true]
  · simp only [h0, ne_eq, not_false_eq_true, if_false, if_true]

theorem pidReturned_bad {r : Frame} (h : r.b0 ≠ handshake) (s : State) :
    pidReturned r s = raiseAccess (.unexpectedHandshake 0 0 r.b0) (receive readOk [r] s) := by
  unfold pidReturned
  rw [validateRead_single, if_neg h]

theorem pidReturned_good {r : Frame} (h : r.b0 = handshake) (s : State) :
    pidReturned r s =
      if r.b1 ≠ pidExpected then
        raiseAccess (.identityMismatch regPid pidExpected r.b1) (logIfDebug .productId r.b1 (receive readOk [r] s))
      else enterIpid (logIfDebug .productId r.b1 (receive readOk [r] s)) := by
  unfold pidReturned
  rw [validateRead_single, if_pos h]
  rfl

theorem ipidReturned_bad {r : Frame} (h : r.b0 ≠ handshake) (s : State) :
    ipidReturned r s = raiseAccess (.unexpectedHandshake 0 0 r.b0) (receive readOk [r] s) := by
  unfold ipidReturned
  rw [validateRead_single, if_neg h]

theorem ipidReturned_good {r : Frame} (h : r.b0 = handshake) (s : State) :
    ipidReturned r s =
      if r.b1 ≠ ipidExpected then
        raiseAccess (.identityMismatch regIpid ipidExpected r.b1) (logIfDebug .inverseProductId r.b1 (receive readOk [r] s))
      else enterB1 (setPhase .identified (logIfDebug .inverseProductId r.b1 (receive readOk [r] s))) := by
  unfold ipidReturned
  rw [validateRead_single, if_pos h]
  rfl

/-! ### The exchange of a frame -/

/-- The command in progress in `s` has exchanged a frame: `events` are appended, and nothing but the frame buffers, `K`, the call
and the answers left has changed. -/
structure Exchanged (s u : State) (events : List Event) : Prop where
  cmd : u.cmd = s.cmd
  seq : u.seq = s.seq
  hist : u.hist = s.hist ++ events
  res : u.res = s.res
  handle : SameHandle s u
  caller : SameCaller s u

/-- `s` when the frame `f`, issued as its single transfer, has come back with `ans`. -/
def exchange (f : Frame) (ans : Option Frame) (s : State) : State := record (.xfer f ans) (endCall (issueXfer f s))

theorem exchanged (f : Frame) (ans : Option Frame) (s : State) : Exchanged s (exchange f ans s) [.xfer f ans] :=
  ⟨rfl, rfl, rfl, rfl, ⟨⟨rfl, rfl, rfl⟩, rfl, rfl, rfl⟩, ⟨rfl, rfl, rfl⟩⟩

namespace Exchanged

variable {events : List Event} {rest : List Reply} {e : ErrorRec}

theorem receive (h : Exchanged s u events) (good : Frame → Bool) (ins : List Frame) :
    Exchanged s (receive good ins u) events := by
  obtain ⟨cmd, seq, hist, res, ⟨⟨isOpen, ch, xcfg⟩, phase, unusable, debug⟩, ⟨presented, refused, reason⟩⟩ := h
  exact ⟨cmd, seq, hist, res, ⟨⟨isOpen, ch, xcfg⟩, phase, unusable, debug⟩, ⟨presented, refused, reason⟩⟩

theorem receiveNothing (h : Exchanged s u events) : Exchanged s (receiveNothing u) events := by
  obtain ⟨cmd, seq, hist, res, ⟨⟨isOpen, ch, xcfg⟩, phase, unusable, debug⟩, ⟨presented, refused, reason⟩⟩ := h
  exact ⟨cmd, seq, hist, res, ⟨⟨isOpen, ch, xcfg⟩, phase, unusable, debug⟩, ⟨presented, refused, reason⟩⟩

theorem record (h : Exchanged s u events) (e : Event) : Exchanged s (record e u) (events ++ [e]) := by
  obtain ⟨cmd, seq, hist, res, ⟨⟨isOpen, ch, xcfg⟩, phase, unusable, debug⟩, ⟨presented, refused, reason⟩⟩ := h
  refine ⟨cmd, seq, ?_, res, ⟨⟨isOpen, ch, xcfg⟩, phase, unusable, debug⟩, ⟨presented, refused, reason⟩⟩
  rw [record_hist, hist, List.append_assoc]

theorem logIfDebug (h : Exchanged s u events) (item : LogItem) (v : Byte) :
    Exchanged s (logIfDebug item v u) (events ++ if s.debug then [.logged item v] else []) := by
  rw [← h.handle.debug]
  unfold Machine.logIfDebug
  split
  · exact h.record _
  · rw [List.append_nil]; exact h

theorem returns (h : Exchanged s u events) (v : Value) :
    Ends s (setReplies rest (returnValue v u)) (.ok v) events rest ∧ SameHandle s (setReplies rest (returnValue v u)) :=
  ⟨returnValue_ends h.hist h.caller, returnValue_sameHandle h.handle v rest⟩

theorem raises (h : Exchanged s u events) (hc : s.cmd ≠ some .init) :
    Ends s (setReplies rest (raiseAccess e u)) (.err e) events rest ∧ SameHandle s (setReplies rest (raiseAccess e u)) :=
  ⟨raiseAccess_ends h.hist h.caller, raiseAccess_sameHandle h.handle (h.cmd ▸ hc) e rest⟩

/-- An error of `INIT` makes the handle unusable (R113). -/
theorem aborts (h : Exchanged s u events) (hc : s.cmd = some .init) :
    Aborts s (setReplies rest (raiseAccess e u)) e events rest s.phase where
  ends := raiseAccess_ends h.hist h.caller
  channel := ⟨h.handle.channel.isOpen, h.handle.channel.ch, h.handle.channel.xcfg⟩
  debug := h.handle.debug
  unusable := by simp [h.cmd, hc]
  phase := h.handle.phase

/-- `INIT` goes on to a stage with a single transfer. -/
theorem goesOn_xfer (h : Exchanged s u events) (hc : s.cmd = some .init) (q : Seq) (f : Frame) :
    GoesOn s (setReplies rest (issueXfer f (setSeq q u))) q .xfer [f] events rest s.phase where
  cmd := h.cmd.trans hc
  seq := rfl
  call := rfl
  outbuf := rfl
  hist := h.hist
  replies := rfl
  phase := h.handle.phase
  unusable := h.handle.unusable
  debug := h.handle.debug
  res := h.res
  channel := ⟨h.handle.channel.isOpen, h.handle.channel.ch, h.handle.channel.xcfg⟩
  caller := ⟨h.caller.presented, h.caller.refused, h.caller.reason⟩

/-- `INIT` has identified the device and goes on to batch 1 (R108, R109). -/
theorem goesOn_b1 (h : Exchanged s u events) (hc : s.cmd = some .init) :
    GoesOn s (setReplies rest (enterB1 (setPhase .identified u))) .b1 .xferBatch (writeFrames batch1) events rest
      .identified := by
  rw [enterB1_eq]
  exact {
    cmd := h.cmd.trans hc
    seq := rfl
    call := rfl
    outbuf := rfl
    hist := h.hist
    replies := rfl
    phase := rfl
    unusable := h.handle.unusable
    debug := h.handle.debug
    res := h.res
    channel := ⟨h.handle.channel.isOpen, h.handle.channel.ch, h.handle.channel.xcfg⟩
    caller := ⟨h.caller.presented, h.caller.refused, h.caller.reason⟩ }

end Exchanged

/-! ### The request frame of the command in progress -/

section Request

variable {c : Instr} {f r : Frame} {rest : List Reply} (hc : s.cmd = some c) (hcall : s.call = none ∨ s.call = some .xfer)

include hc hcall

/-- An answered request frame is exchanged, and its response delivered to the command. -/
theorem wireFrame_delivered (f : Frame) (hr : s.replies = .answer (.ok [r]) :: rest) :
    wireFrame f s = .next (drain rest (xferDelivered r (exchange f (some r) s))) := by
  have hr' : (issueXfer f s).replies = .answer (.ok [r]) :: rest := hr
  rw [wireFrame_inTransfer hc hcall, run, hr', drain_answer (issueXfer_call f s), returned_xfer_ok (issueXfer_outbuf f s)]
  rfl

/-- A request frame whose exchange fails ends the command (R90). -/
theorem wireFrame_failed (f : Frame) (hr : s.replies = .answer .fail :: rest) :
    wireFrame f s =
      .next (setReplies rest (raiseAccess (.transportError .transfer) (receiveNothing (exchange f none s)))) := by
  have hr' : (issueXfer f s).replies = .answer .fail :: rest := hr
  rw [wireFrame_inTransfer hc hcall, run, hr', drain_answer (issueXfer_call f s),
    returned_xfer_fail (issueXfer_outbuf f s) rfl]
  exact congrArg Host.Outcome.next (drain_noCall rfl rest)

end Request

theorem readFrame_operand {a : Byte} (h : a.getLsbD 7 = false) : readFrame ((a.setWidth 7).setWidth 8) = readFrame a := by
  have same : ∀ a : Byte, a.getLsbD 7 = false → (a.setWidth 7).setWidth 8 = a := by decide
  rw [same a h]

theorem writeFrame_operand (a v : Byte) : writeFrame ((a.setWidth 7).setWidth 8) v = writeFrame a v := by
  have same : ∀ a : Byte, (a.setWidth 7).setWidth 8 ||| writeFlag = a ||| writeFlag := by decide
  rw [writeFrame, same a]; rfl

/-! ### The frames of `RDREG` and `WRREG` -/

section Access

variable {c : Instr} {a v : Byte} {f r : Frame} {rest : List Reply} (hcall : s.call = none ∨ s.call = some .xfer)

include hcall

theorem rdreg_exchanges (hc : s.cmd = some (.rdreg a)) (hr : s.replies = .answer (.ok [r]) :: rest) :
    ∃ t, wireFrame (readFrame a) s = .next t ∧
      Ends s t (if r.b0 = handshake then .ok (.byte r.b1) else .err (.unexpectedHandshake 0 0 r.b0))
        [.xfer (readFrame a) (some r)] rest ∧ SameHandle s t := by
  have ex := exchanged (readFrame a) (some r) s
  refine ⟨_, wireFrame_delivered hc hcall _ hr, ?_⟩
  rw [xferDelivered_rdreg (ex.cmd.trans hc), rdregReturned_eq]
  split_ifs <;> rw [drain_noCall rfl]
  · exact (ex.receive readOk [r]).returns _
  · exact (ex.receive readOk [r]).raises (by simp [hc])

theorem wrreg_exchanges (hc : s.cmd = some (.wrreg a v)) (hr : s.replies = .answer (.ok [r]) :: rest) :
    ∃ t, wireFrame (writeFrame a v) s = .next t ∧
      Ends s t
        (if r.b0 ≠ handshake then .err (.unexpectedHandshake 0 0 r.b0)
          else if r.b1 ≠ handshake then .err (.unexpectedHandshake 0 1 r.b1) else .ok (.byte v))
        [.xfer (writeFrame a v) (some r)] rest ∧ SameHandle s t := by
  have ex := exchanged (writeFrame a v) (some r) s
  refine ⟨_, wireFrame_delivered hc hcall _ hr, ?_⟩
  rw [xferDelivered_wrreg (ex.cmd.trans hc), wrregReturned_eq]
  split_ifs <;> rw [drain_noCall rfl]
  · exact (ex.receive (writeOk true) [r]).raises (by simp [hc])
  · exact (ex.receive (writeOk true) [r]).raises (by simp [hc])
  · exact (ex.receive (writeOk true) [r]).returns _

theorem access_transferFails (hc : s.cmd = some c) (hi : c ≠ .init) (f : Frame) (hr : s.replies = .answer .fail :: rest) :
    ∃ t, wireFrame f s = .next t ∧
      Ends s t (.err (.transportError .transfer)) [.xfer f none] rest ∧ SameHandle s t :=
  ⟨_, wireFrame_failed hc hcall f hr, (exchanged f none s).receiveNothing.raises (by simpa [hc] using hi)⟩

end Access

/-! ### The frames of `INIT` -/

section Init

variable {r : Frame} {rest : List Reply} (hcall : s.call = none ∨ s.call = some .xfer) (hc : s.cmd = some .init)

include hcall hc

theorem init_transferFails (f : Frame) (hr : s.replies = .answer .fail :: rest) :
    ∃ t, wireFrame f s = .next t ∧ Aborts s t (.transportError .transfer) [.xfer f none] rest s.phase :=
  ⟨_, wireFrame_failed hc hcall f hr, (exchanged f none s).receiveNothing.aborts hc⟩

theorem init_frameAborts {e : ErrorRec} {f : Frame} {events : List Event} {u : State}
    (hr : s.replies = .answer (.ok [r]) :: rest) (hx : xferDelivered r (exchange f (some r) s) = raiseAccess e u)
    (ex : Exchanged s u events) : ∃ t, wireFrame f s = .next t ∧ Aborts s t e events rest s.phase := by
  refine ⟨_, wireFrame_delivered hc hcall f hr, ?_⟩
  rw [hx, drain_noCall rfl]
  exact ex.aborts hc

theorem init_frameGoesOn {f : Frame} {events : List Event} {u : State} {q : Seq} {p : Pending} {out : List Frame}
    {phase : Phase} (hr : s.replies = .answer (.ok [r]) :: rest) (hx : xferDelivered r (exchange f (some r) s) = u)
    (on : GoesOn s (setReplies rest u) q p out events rest phase) :
    ∃ u, wireFrame f s = .next (run u) ∧ GoesOn s u q p out events rest phase := by
  refine ⟨setReplies rest u, ?_, on⟩
  rw [wireFrame_delivered hc hcall f hr, hx, drain_eq_run]

variable (hr : s.replies = .answer (.ok [r]) :: rest)

include hr

theorem por_aborts (hq : s.seq = .por) (bad : r ≠ ⟨handshake, handshake⟩) :
    ∃ t, wireFrame (writeFrame regPor porValue) s = .next t ∧
      Aborts s t (if r.b0 = handshake then .unexpectedHandshake 0 1 r.b1 else .unexpectedHandshake 0 0 r.b0)
        [.xfer (writeFrame regPor porValue) (some r)] rest s.phase := by
  have ex := exchanged (writeFrame regPor porValue) (some r) s
  refine init_frameAborts hcall hc hr ?_ (ex.receive (writeOk true) [r])
  rw [xferDelivered_por (ex.cmd.trans hc) (ex.seq.trans hq), porReturned_bad bad]

theorem por_goesOn (hq : s.seq = .por) (good : r = ⟨handshake, handshake⟩) :
    ∃ u, wireFrame (writeFrame regPor porValue) s = .next (run u) ∧
      GoesOn s u .pid .xfer [readFrame regPid] [.xfer (writeFrame regPor porValue) (some r)] rest s.phase := by
  have ex := exchanged (writeFrame regPor porValue) (some r) s
  refine init_frameGoesOn hcall hc hr ?_ ((ex.receive (writeOk true) [r]).goesOn_xfer hc .pid (readFrame regPid))
  rw [xferDelivered_por (ex.cmd.trans hc) (ex.seq.trans hq), porReturned_good good, enterPid]

theorem pid_aborts (hq : s.seq = .pid) (bad : r.b0 ≠ handshake) :
    ∃ t, wireFrame (readFrame regPid) s = .next t ∧
      Aborts s t (.unexpectedHandshake 0 0 r.b0) [.xfer (readFrame regPid) (some r)] rest s.phase := by
  have ex := exchanged (readFrame regPid) (some r) s
  refine init_frameAborts hcall hc hr ?_ (ex.receive readOk [r])
  rw [xferDelivered_pid (ex.cmd.trans hc) (ex.seq.trans hq), pidReturned_bad bad]

theorem pid_mismatches (hq : s.seq = .pid) (good : r.b0 = handshake) (other : r.b1 ≠ pidExpected) :
    ∃ t, wireFrame (readFrame regPid) s = .next t ∧
      Aborts s t (.identityMismatch regPid pidExpected r.b1)
        ([.xfer (readFrame regPid) (some r)] ++ if s.debug then [.logged .productId r.b1] else []) rest s.phase := by
  have ex := exchanged (readFrame regPid) (some r) s
  refine init_frameAborts hcall hc hr ?_ ((ex.receive readOk [r]).logIfDebug .productId r.b1)
  rw [xferDelivered_pid (ex.cmd.trans hc) (ex.seq.trans hq), pidReturned_good good, if_pos other]

theorem pid_goesOn (hq : s.seq = .pid) (good : r.b0 = handshake) (expected : r.b1 = pidExpected) :
    ∃ u, wireFrame (readFrame regPid) s = .next (run u) ∧
      GoesOn s u .ipid .xfer [readFrame regIpid]
        ([.xfer (readFrame regPid) (some r)] ++ if s.debug then [.logged .productId r.b1] else []) rest s.phase := by
  have ex := exchanged (readFrame regPid) (some r) s
  refine init_frameGoesOn hcall hc hr ?_
    (((ex.receive readOk [r]).logIfDebug .productId r.b1).goesOn_xfer hc .ipid (readFrame regIpid))
  rw [xferDelivered_pid (ex.cmd.trans hc) (ex.seq.trans hq), pidReturned_good good, if_neg (not_not.mpr expected), enterIpid]

theorem ipid_aborts (hq : s.seq = .ipid) (bad : r.b0 ≠ handshake) :
    ∃ t, wireFrame (readFrame regIpid) s = .next t ∧
      Aborts s t (.unexpectedHandshake 0 0 r.b0) [.xfer (readFrame regIpid) (some r)] rest s.phase := by
  have ex := exchanged (readFrame regIpid) (some r) s
  refine init_frameAborts hcall hc hr ?_ (ex.receive readOk [r])
  rw [xferDelivered_ipid (ex.cmd.trans hc) (ex.seq.trans hq), ipidReturned_bad bad]

theorem ipid_mismatches (hq : s.seq = .ipid) (good : r.b0 = handshake) (other : r.b1 ≠ ipidExpected) :
    ∃ t, wireFrame (readFrame regIpid) s = .next t ∧
      Aborts s t (.identityMismatch regIpid ipidExpected r.b1)
        ([.xfer (readFrame regIpid) (some r)] ++ if s.debug then [.logged .inverseProductId r.b1] else []) rest
        s.phase := by
  have ex := exchanged (readFrame regIpid) (some r) s
  refine init_frameAborts hcall hc hr ?_ ((ex.receive readOk [r]).logIfDebug .inverseProductId r.b1)
  rw [xferDelivered_ipid (ex.cmd.trans hc) (ex.seq.trans hq), ipidReturned_good good, if_pos other]

theorem ipid_goesOn (hq : s.seq = .ipid) (good : r.b0 = handshake) (expected : r.b1 = ipidExpected) :
    ∃ u, wireFrame (readFrame regIpid) s = .next (run u) ∧
      GoesOn s u .b1 .xferBatch (writeFrames batch1)
        ([.xfer (readFrame regIpid) (some r)] ++ if s.debug then [.logged .inverseProductId r.b1] else []) rest
        .identified := by
  have ex := exchanged (readFrame regIpid) (some r) s
  refine init_frameGoesOn hcall hc hr ?_ (((ex.receive readOk [r]).logIfDebug .inverseProductId r.b1).goesOn_b1 hc)
  rw [xferDelivered_ipid (ex.cmd.trans hc) (ex.seq.trans hq), ipidReturned_good good, if_neg (not_not.mpr expected)]

end Init

/-- A 7-bit address behind a 1 bit is the address byte with the write flag (R66). -/
theorem writeFrame_addr7 (a : Addr7) (v : Byte) : writeFrame (a.setWidth 8) v = ⟨1#1 ++ a, v⟩ := by
  have flagged : ∀ a : Addr7, a.setWidth 8 ||| writeFlag = 1#1 ++ a := by decide
  rw [writeFrame, flagged a]

theorem writeFrames_table {n : Nat} (t : Vector (Addr7 × Byte) n) :
    writeFrames (tablePairs t) = t.toList.map fun e => ⟨1#1 ++ e.1, e.2⟩ := by
  simp only [writeFrames, tablePairs, List.map_map, Function.comp_def, writeFrame_addr7]

/-- Settles O27: the frame is exchanged, and its response is one of those the command's checks tell apart. -/
theorem requestFramesAreExchanged : Obligations.RequestFramesAreExchanged := by
  intro s rest hcall
  refine ⟨fun a r hc ha hr => ?rdreg, fun a v r hc ha hr => ?wrreg,
    fun hr => ⟨fun a hc ha => ?rdregFails, fun a v hc ha => ?wrregFails⟩, fun hc hq => ?por, fun hc hq => ?pid,
    fun hc hq => ?ipid⟩
  case rdreg =>
    rw [exec, execRdf, readFrame_operand ha]
    exact rdreg_exchanges hcall hc hr
  case wrreg =>
    rw [exec, execWrf, writeFrame_operand]
    exact wrreg_exchanges hcall hc hr
  case rdregFails =>
    rw [exec, execRdf, readFrame_operand ha]
    exact access_transferFails hcall hc nofun _ hr
  case wrregFails =>
    rw [exec, execWrf, writeFrame_operand]
    exact access_transferFails hcall hc nofun _ hr
  case por => exact ⟨init_transferFails hcall hc _, fun r hr => ⟨por_aborts hcall hc hr hq, por_goesOn hcall hc hr hq⟩⟩
  case pid =>
    exact ⟨init_transferFails hcall hc _, fun r hr =>
      ⟨pid_aborts hcall hc hr hq, pid_mismatches hcall hc hr hq, pid_goesOn hcall hc hr hq⟩⟩
  case ipid =>
    rw [← writeFrames_table]
    exact ⟨init_transferFails hcall hc _, fun r hr =>
      ⟨ipid_aborts hcall hc hr hq, ipid_mismatches hcall hc hr hq, ipid_goesOn hcall hc hr hq⟩⟩

end Sys2Proof.Proofs
end

section
/-! PROOFS. A sample under the reference simulated device (spec/20_memory.md R53, spec/92_eei_decisions.md D24): read frames leave
the bank alone, so a second sample meets the bank of the first. -/

namespace Sys2Proof.Proofs

open Sys2Proof.Machine

variable {s : State}

/-- The response frames of a batched read that all carry the handshake, with their values (R64). -/
def goodReads (vals : List Byte) : List Frame := vals.map fun b => ⟨handshake, b⟩

theorem validateReadFrom_goodReads (k : Nat) (vals : List Byte) : validateReadFrom k (goodReads vals) = .ok vals := by
  induction vals generalizing k with
  | nil => rfl
  | cons b vals ih =>
    have rest : validateReadFrom (k + 1) (goodReads vals) = .ok vals := ih (k + 1)
    change validateReadFrom k (⟨handshake, b⟩ :: goodReads vals) = .ok (b :: vals)
    rw [validateReadFrom_cons_ok rfl, rest]
    rfl

theorem rdsampleReturned_good {vals : List Byte} {m : MotionSample} (hm : sampleOf vals = some m) (s : State) :
    rdsampleReturned (goodReads vals) s = returnValue (.sample m) (receive readOk (goodReads vals) s) := by
  have valid : validateRead (goodReads vals) = .ok vals := validateReadFrom_goodReads 0 vals
  simp only [rdsampleReturned, valid, hm]

/-- `RDSAMPLE` whose five frames are answered with the handshake ends with the sample of their bytes (R117). -/
theorem rdsample_ends {vals : List Byte} {m : MotionSample} {rest : List Reply} (hs : Ready s)
    (hr : s.replies = .answer (.ok (goodReads vals)) :: rest) (hl : vals.length = 5) (hm : sampleOf vals = some m) :
    ∃ t, exec .rdsample s = .next t ∧
      Ends s t (.ok (.sample m)) [.xferBatch (readFrames motionRegs) (some (goodReads vals))] rest ∧ SameHandle s t := by
  have same : (goodReads vals).length = (issueBatch (readFrames motionRegs) (begin .rdsample s)).outbuf.length := by
    rw [issueBatch_outbuf, readFrames_length, goodReads, List.length_map, hl]
    rfl
  refine ⟨_, command_batch (admission_ready hs fun _ _ => nofun) rfl hr, ?_⟩
  rw [returned_batch_ok same, batchDelivered_rdsample rfl, rdsampleReturned_good hm, drain_noCall rfl]
  refine ⟨returnValue_ends rfl ⟨rfl, rfl, rfl⟩, returnValue_sameHandle ?_ _ _⟩
  exact ⟨⟨rfl, rfl, rfl⟩, rfl, rfl, rfl⟩

theorem ready_afterEnds {t : State} {r : Result} {events : List Event} {rest : List Reply} (hs : Ready s)
    (ends : Ends s t r events rest) (handle : SameHandle s t) : Ready t :=
  ⟨handle.channel.isOpen.trans hs.isOpen, handle.unusable.trans hs.usable, ends.idle.noCommand⟩

/-- Read frames are answered with the bank's bytes and leave the bank as it was (R53). -/
theorem simFrames_reads (bank : Bank) {addrs : List Byte} (h : ∀ a ∈ addrs, isIllegalAddr a = false) :
    simFrames bank (readFrames addrs) = (goodReads (addrs.map fun a => bank.read (a.setWidth 7)), bank) := by
  induction addrs with
  | nil => rfl
  | cons a addrs ih =>
    obtain ⟨ha, hrest⟩ := List.forall_mem_cons.mp h
    have one : simFrame bank (readFrame a) = (⟨handshake, bank.read (a.setWidth 7)⟩, bank) := by
      simp [simFrame, readFrame, ha]
    change ((simFrame bank (readFrame a)).1 :: (simFrames (simFrame bank (readFrame a)).2 (readFrames addrs)).1,
      (simFrames (simFrame bank (readFrame a)).2 (readFrames addrs)).2) = _
    rw [one, ih hrest]
    rfl

theorem simFrames_motion (bank : Bank) :
    simFrames bank (readFrames motionRegs) =
      (goodReads [bank.read 2, bank.read 3, bank.read 4, bank.read 5, bank.read 6], bank) :=
  simFrames_reads bank (by decide)

/-- Settles O60: both samples are of the same five bytes, because the first leaves the bank as it was. -/
theorem simulatedSampleIsIdempotent : Obligations.SimulatedSampleIsIdempotent := by
  intro s bank rest hs hr
  simp only [simAnswer, simFrames_motion] at hr
  obtain ⟨t, ht, ends, handle⟩ := rdsample_ends hs hr rfl rfl
  obtain ⟨u, hu, ends', -⟩ := rdsample_ends (ready_afterEnds hs ends handle) ends.replies rfl rfl
  exact ⟨t, u, ht, hu, ends'.res.trans ends.res.symm, ends.res⟩

end Sys2Proof.Proofs
end

section
/-! PROOFS. The encodings (spec/30_encoding.md R61 to R75): the decoders and the encoder are inverse to each other, and bytes that
are no command are refused. -/

namespace Sys2Proof.Proofs

open Sys2Proof.Machine

/-! ### The decoders read what the encoder wrote -/

theorem takeAddrs_append (addrs rest : List Byte) : takeAddrs addrs.length (addrs ++ rest) = .ok (addrs, rest) := by
  induction addrs with
  | nil => rfl
  | cons a addrs ih => simp only [List.length_cons, List.cons_append, takeAddrs, ih]

/-- The operand bytes of a batched write: address and value of each pair in turn (R69). -/
abbrev pairBytes (pairs : List (Byte × Byte)) : List Byte := pairs.flatMap fun p => [p.1, p.2]

theorem takePairs_append (pairs : List (Byte × Byte)) (rest : List Byte) :
    takePairs pairs.length (pairBytes pairs ++ rest) = .ok (pairs, rest) := by
  induction pairs with
  | nil => rfl
  | cons p pairs ih =>
    simp only [List.length_cons, List.flatMap_cons, List.cons_append, List.nil_append, takePairs, ih]

/-- The count byte of a batch of at most 255 operands (R97). -/
theorem toNat_count {n : Nat} (h : n ≤ maxBatch) : (BitVec.ofNat 8 n).toNat = n := by
  replace h : n ≤ 255 := h
  rw [BitVec.toNat_ofNat]
  omega

theorem decodeRdregs_encoded {addrs : List Byte} (h : addrs.length ≤ maxBatch) (rest : List Byte) :
    decodeRdregs (BitVec.ofNat 8 addrs.length :: (addrs ++ rest)) = .ok (.rdregs addrs, rest) := by
  simp only [decodeRdregs, toNat_count h, takeAddrs_append]

theorem decodeWrregs_encoded {pairs : List (Byte × Byte)} (h : pairs.length ≤ maxBatch) (rest : List Byte) :
    decodeWrregs (BitVec.ofNat 8 pairs.length :: (pairBytes pairs ++ rest)) = .ok (.wrregs pairs, rest) := by
  simp only [decodeWrregs, toNat_count h, takePairs_append]

theorem setWidth_addr7 (addr : Addr7) : (addr.setWidth 8).setWidth 7 = addr := by
  revert addr; decide

theorem decodeFrame_rdf (addr : Addr7) : decodeFrame (readFrame (addr.setWidth 8)) = .ok (.rdf addr) := by
  rw [decodeFrame_readFrame (isIllegalAddr_setWidth addr), setWidth_addr7]

theorem decodeFrame_wrf (addr : Addr7) (v : Byte) : decodeFrame (writeFrame (addr.setWidth 8) v) = .ok (.wrf addr v) := by
  rw [decodeFrame_writeFrame, setWidth_addr7]

theorem decode_frame16 {f : Frame} {i : Instr} (h : decodeFrame f = .ok i) (rest : List Byte) :
    decode .frame16 (f.b0 :: f.b1 :: rest) = .ok (i, rest) := by
  simp only [decode, h]

/-- Settles O2: each opcode selects the decoder of its operands, which reads back the operands the encoder wrote. -/
theorem decodeOfEncodeIsTheInstruction : Obligations.DecodeOfEncodeIsTheInstruction := by
  intro i rest wellFormed
  cases i with
  | openCh | closeCh | setdbg | rdreg | wrreg | init | rdsample => rfl
  | rdregs addrs => exact decodeRdregs_encoded (of_decide_eq_true wellFormed) rest
  | wrregs pairs => exact decodeWrregs_encoded (of_decide_eq_true wellFormed) rest
  | rdf addr => exact decode_frame16 (decodeFrame_rdf addr) rest
  | wrf addr v => exact decode_frame16 (decodeFrame_wrf addr v) rest

theorem decodeCmd_encode {i : Instr} (wellFormed : i.WellFormed) (format : i.format = .cmd) (rest : List Byte) :
    decodeCmd (encode i ++ rest) = .ok (i, rest) := by
  have h := decodeOfEncodeIsTheInstruction i rest wellFormed
  rwa [format] at h

/-! ### What the decoders read is what the encoder writes -/

theorem takeAddrs_eq {n : Nat} {bytes addrs rest : List Byte} (h : takeAddrs n bytes = .ok (addrs, rest)) :
    bytes = addrs ++ rest := by
  fun_induction takeAddrs n bytes generalizing addrs rest with
  | case1 => cases h; rfl
  | case2 n a bytes as' rest' hd ih => cases h; rw [ih hd, List.cons_append]
  | case3 => cases h
  | case4 => cases h

theorem takePairs_eq {n : Nat} {bytes rest : List Byte} {pairs : List (Byte × Byte)}
    (h : takePairs n bytes = .ok (pairs, rest)) : bytes = pairBytes pairs ++ rest := by
  fun_induction takePairs n bytes generalizing pairs rest with
  | case1 => cases h; rfl
  | case2 n a v bytes ps rest' hd ih => cases h; rw [ih hd]; rfl
  | case3 => cases h
  | case4 => cases h

theorem takeAddrs_error {n : Nat} {bytes : List Byte} {e : DecodeError} (h : takeAddrs n bytes = .error e) :
    e = .truncated := by
  fun_induction takeAddrs n bytes generalizing e with
  | case1 => cases h
  | case2 => cases h
  | case3 n a bytes e' hd ih => cases h; exact ih hd
  | case4 => cases h; rfl

theorem takePairs_error {n : Nat} {bytes : List Byte} {e : DecodeError} (h : takePairs n bytes = .error e) :
    e = .truncated := by
  fun_induction takePairs n bytes generalizing e with
  | case1 => cases h
  | case2 => cases h
  | case3 n a v bytes e' hd ih => cases h; exact ih hd
  | case4 => cases h; rfl

/-- The outcome `d` of a decoder is read off `bytes`: they are the encoding of the instruction and the bytes left, or they are too
short (R71). -/
def ReadOff (bytes : List Byte) : Except DecodeError (Instr × List Byte) → Prop
  | .ok (i, rest) => bytes = encode i ++ rest
  | .error e => e = .truncated

theorem decodeOpen_readOff : ∀ bytes, ReadOff (opOpen :: bytes) (decodeOpen bytes)
  | _ :: _ :: _ | [_] | [] => rfl

theorem decodeSetdbg_readOff : ∀ bytes, ReadOff (opSetdbg :: bytes) (decodeSetdbg bytes)
  | _ :: _ | [] => rfl

theorem decodeRdreg_readOff : ∀ bytes, ReadOff (opRdreg :: bytes) (decodeRdreg bytes)
  | _ :: _ | [] => rfl

theorem decodeWrreg_readOff : ∀ bytes, ReadOff (opWrreg :: bytes) (decodeWrreg bytes)
  | _ :: _ :: _ | [_] | [] => rfl

theorem decodeRdregs_readOff : ∀ bytes, ReadOff (opRdregs :: bytes) (decodeRdregs bytes)
  | [] => rfl
  | n :: bytes => by
    unfold decodeRdregs; dsimp only
    split
    next addrs rest hd =>
      have count : BitVec.ofNat 8 addrs.length = n := by rw [takeAddrs_length hd, BitVec.ofNat_toNat, BitVec.setWidth_eq]
      simp only [ReadOff, encode, count, takeAddrs_eq hd, List.cons_append]
    next e hd => exact takeAddrs_error hd

theorem decodeWrregs_readOff : ∀ bytes, ReadOff (opWrregs :: bytes) (decodeWrregs bytes)
  | [] => rfl
  | n :: bytes => by
    unfold decodeWrregs; dsimp only
    split
    next pairs rest hd =>
      have count : BitVec.ofNat 8 pairs.length = n := by rw [takePairs_length hd, BitVec.ofNat_toNat, BitVec.setWidth_eq]
      simp only [ReadOff, encode, count, takePairs_eq hd, List.cons_append]
    next e hd => exact takePairs_error hd

/-- The opcodes of R69's table. -/
def opcodes : List Byte := [opOpen, opClose, opSetdbg, opRdreg, opWrreg, opRdregs, opWrregs, opInit, opRdsample]

theorem decodeCmd_readOff {op : Byte} (h : op ∈ opcodes) (rest : List Byte) :
    ReadOff (op :: rest) (decodeCmd (op :: rest)) := by
  simp only [opcodes, List.mem_cons, List.not_mem_nil, or_false] at h
  obtain rfl | rfl | rfl | rfl | rfl | rfl | rfl | rfl | rfl := h
  · exact decodeOpen_readOff rest
  · rfl
  · exact decodeSetdbg_readOff rest
  · exact decodeRdreg_readOff rest
  · exact decodeWrreg_readOff rest
  · exact decodeRdregs_readOff rest
  · exact decodeWrregs_readOff rest
  · rfl
  · rfl

theorem decodeCmd_reserved {op : Byte} (h : op ∉ opcodes) (rest : List Byte) :
    decodeCmd (op :: rest) = .error .reservedOpcode := by
  simp only [opcodes, List.mem_cons, List.not_mem_nil, or_false, not_or] at h
  simp only [decodeCmd, h, if_false]

theorem decodeCmd_bytes {bytes rest : List Byte} {i : Instr} (h : decodeCmd bytes = .ok (i, rest)) :
    bytes = encode i ++ rest := by
  cases bytes with
  | nil => cases h
  | cons op bytes =>
    by_cases hop : op ∈ opcodes
    · have read := decodeCmd_readOff hop bytes
      rwa [h] at read
    · rw [decodeCmd_reserved hop] at h; cases h

theorem decodeFrame_bytes {f : Frame} {i : Instr} (h : decodeFrame f = .ok i) : encode i = [f.b0, f.b1] := by
  have legal : ∀ b : Byte, isIllegalAddr b = false → (b.setWidth 7).setWidth 8 = b := by decide
  have flagged : ∀ b : Byte, isIllegalAddr b = true → (b.setWidth 7).setWidth 8 ||| writeFlag = b := by decide
  unfold decodeFrame at h
  split_ifs at h with hw hr <;> cases h
  · simp only [encode, writeFrame, flagged _ hw]
  · simp only [encode, readFrame, legal _ (Bool.eq_false_iff.mpr hw), hr]

/-- Settles O3: both decoders read off exactly the bytes of the instruction they answer. -/
theorem decodedBytesAreTheEncoding : Obligations.DecodedBytesAreTheEncoding :=
  ⟨fun bytes rest i h => ⟨decodeCmd_wellFormed h, decodeCmd_onlyCommands bytes i rest h, decodeCmd_bytes h⟩,
    fun _ _ h => ⟨decodeFrame_format h, decodeFrame_bytes h⟩⟩

/-! ### Bytes that are no command -/

/-- On the caller's turn a byte string that is no command is refused (R137). -/
theorem step_rejected {s : State} {left : List Reply} {bytes : List Byte} {later : List (List Byte)} {e : DecodeError}
    (turn : CallersTurn s left) (hp : s.presented = bytes :: later) (hd : decodeCmd bytes = .error e) :
    ∃ t, step s = .next t ∧ OnlyRefused (rejection e) { s with replies := left } t ∧ t.presented = later := by
  have refused : callerTurn { s with replies := left } =
      .next (refuse (rejection e) { s with replies := left, presented := later }) := callerTurn_rejected hp hd
  have turn_eq : step s = callerTurn { s with replies := left } := by
    obtain ⟨hc, rfl⟩ | ⟨⟨c, hc⟩, ⟨p, hcall⟩, ⟨hr, rfl⟩ | hr⟩ := turn
    · exact step_idle hc
    · rw [step_inCall hc hcall, waitTurn_noAnswer p hr hp, ← hr]
    · rw [step_inCall hc hcall, waitTurn_pending p hr]
  refine ⟨_, turn_eq.trans refused, ?_, rfl⟩
  exact ⟨rfl, rfl, ⟨⟨rfl, rfl, rfl⟩, rfl, rfl, rfl⟩, ⟨rfl, rfl⟩, rfl, rfl, rfl, rfl, rfl, rfl, rfl⟩

/-- Settles O6: no opcode of the table matches, and what is no command is refused. -/
theorem reservedOpcodesAreRefused : Obligations.ReservedOpcodesAreRefused := fun _ rest reserved =>
  have hd := decodeCmd_reserved reserved rest
  ⟨hd, fun _ _ _ turn hp => step_rejected turn hp hd⟩

/-- A command read off fewer bytes would be the whole command, because what follows an encoding does not change what it
decodes to. -/
theorem decodeCmd_properPrefix {i : Instr} {bytes missing : List Byte} (wellFormed : i.WellFormed) (format : i.format = .cmd)
    (h : encode i = bytes ++ missing) (hm : missing ≠ []) : decodeCmd bytes = .error .truncated := by
  have whole : decodeCmd (bytes ++ missing) = .ok (i, []) := by
    rw [← h, ← List.append_nil (encode i)]
    exact decodeCmd_encode wellFormed format []
  cases bytes with
  | nil => rfl
  | cons op bytes =>
    have hop : op ∈ opcodes := by
      by_contra reserved
      rw [List.cons_append, decodeCmd_reserved reserved] at whole
      cases whole
    have read := decodeCmd_readOff hop bytes
    cases hd : decodeCmd (op :: bytes) with
    | error e => rw [hd] at read; rw [read]
    | ok d =>
      obtain ⟨j, rest⟩ := d
      rw [decodeCmd_bytes hd, List.append_assoc,
        decodeCmd_encode (decodeCmd_wellFormed hd) (decodeCmd_onlyCommands _ j rest hd)] at whole
      cases (List.append_eq_nil_iff.mp (congrArg Prod.snd (Except.ok.inj whole))).2
      exact absurd rfl hm

/-- Settles O7: fewer bytes than a command decode to no command, and what is no command is refused. -/
theorem truncatedCommandsAreRefused : Obligations.TruncatedCommandsAreRefused := fun _ _ _ wellFormed format h hm =>
  have hd := decodeCmd_properPrefix wellFormed format h hm
  ⟨hd, fun _ _ _ turn hp => step_rejected turn hp hd⟩

end Sys2Proof.Proofs
end

section
/-! PROOFS. The words of the encodings (spec/30_encoding.md R62, R63, R66, R68): a request frame is the word of its pattern, and a
sample coordinate the value of its two bytes. -/

namespace Sys2Proof.Proofs

open Sys2Proof.Machine

/-- Settles O1: each word is decoded byte by byte. -/
theorem commandAndFrameWordsDecode : Obligations.CommandAndFrameWordsDecode := ⟨rfl, rfl, rfl, rfl, rfl, rfl, rfl⟩

/-- A 7-bit address behind a 0 bit is the address byte (R66). -/
theorem readFrame_addr7 (a : Addr7) : readFrame (a.setWidth 8) = ⟨0#1 ++ a, 0x00#8⟩ := by
  have clear : ∀ a : Addr7, a.setWidth 8 = 0#1 ++ a := by decide
  rw [readFrame, clear a]; rfl

/-- Settles O5: the write flag is bit 7 of the address byte. -/
theorem requestByteAssembly : Obligations.RequestByteAssembly := fun addr v =>
  ⟨readFrame_addr7 addr, writeFrame_addr7 addr v⟩

/-! ### The patterns of the request frames -/

/-- A 16-bit word has one high and one low byte (R10). -/
theorem word_inj {hi lo hi' lo' : Byte} : hi ++ lo = hi' ++ lo' ↔ hi = hi' ∧ lo = lo' := by
  refine ⟨fun h => ⟨?_, ?_⟩, fun ⟨hhi, hlo⟩ => by rw [hhi, hlo]⟩
  · simpa only [BitVec.extractLsb'_append_eq_left] using congrArg (BitVec.extractLsb' 8 8) h
  · simpa only [BitVec.extractLsb'_append_eq_right] using congrArg (BitVec.extractLsb' 0 8) h

/-- R62: the mask `0x80FF` keeps bit 7 of byte 0 and the whole of byte 1. -/
theorem matches_rdf (b0 b1 : Byte) :
    (b0 ++ b1 : BitVec 16) &&& 0x80FF#16 = 0x0000#16 ↔ isIllegalAddr b0 = false ∧ b1 = readFill := by
  have flag : b0 &&& 0x80#8 = 0x00#8 ↔ isIllegalAddr b0 = false := by simp [isIllegalAddr, writeFlag]
  have value : b1 &&& 0xFF#8 = b1 := BitVec.and_allOnes
  calc (b0 ++ b1) &&& (0x80#8 ++ 0xFF#8) = 0x00#8 ++ 0x00#8
      ↔ b0 &&& 0x80#8 = 0x00#8 ∧ b1 &&& 0xFF#8 = 0x00#8 := by rw [BitVec.and_append, word_inj]
    _ ↔ isIllegalAddr b0 = false ∧ b1 = readFill := by rw [flag, value, readFill]

/-- R63: the mask `0x8000` keeps bit 7 of byte 0 alone. -/
theorem matches_wrf (b0 b1 : Byte) : (b0 ++ b1 : BitVec 16) &&& 0x8000#16 = 0x8000#16 ↔ isIllegalAddr b0 = true := by
  have flag : ∀ b : Byte, b &&& 0x80#8 = 0x80#8 ↔ isIllegalAddr b = true := by decide
  have value : b1 &&& 0x00#8 = 0x00#8 := BitVec.and_zero
  calc (b0 ++ b1) &&& (0x80#8 ++ 0x00#8) = 0x80#8 ++ 0x00#8
      ↔ b0 &&& 0x80#8 = 0x80#8 ∧ b1 &&& 0x00#8 = 0x00#8 := by rw [BitVec.and_append, word_inj]
    _ ↔ isIllegalAddr b0 = true := by rw [flag, and_iff_left value]

theorem addressField (b0 b1 : Byte) : BitVec.extractLsb' 8 7 (b0 ++ b1) = b0.setWidth 7 := by
  rw [BitVec.extractLsb'_append_eq_of_le (Nat.le_refl 8)]
  exact (BitVec.setWidth_eq_extractLsb' (by decide)).symm

/-- Settles O4: each mask keeps the bits of the frame the decoder looks at. -/
theorem requestFramePatterns : Obligations.RequestFramePatterns := by
  rintro ⟨b0, b1⟩
  simp only [ne_eq, matches_rdf, matches_wrf, addressField, BitVec.extractLsb'_append_eq_right]
  refine ⟨fun ⟨legal, fill⟩ => ?_, fun flagged => ?_, fun noRead noWrite => ?_⟩
  · subst fill; exact decodeFrame_readFrame legal
  · exact if_pos flagged
  · have fill : b1 ≠ readFill := fun fill => noRead ⟨Bool.eq_false_iff.mpr noWrite, fill⟩
    exact (if_neg noWrite).trans (if_neg fill)

/-- Settles O15: the high byte is signed, by its bit 7, and weighs 256. -/
theorem coordinateIsTwosComplement : Obligations.CoordinateIsTwosComplement := by
  intro hi lo
  have signed : hi.toInt = hi.toNat - if hi.getLsbD 7 then 256 else 0 := by
    rw [BitVec.toInt_eq_msb_cond, show hi.msb = hi.getLsbD 7 from rfl]
    split <;> simp
  calc (coordinate hi lo).toInt = 256 * hi.toInt + lo.toNat := BitVec.toInt_append
    _ = 256 * (hi.toNat : Int) + lo.toNat - (if hi.getLsbD 7 then 65536 else 0) := by
      rw [signed]; split <;> omega

end Sys2Proof.Proofs
end

section
/-! PROOFS. The frames a command puts on the wire (spec/30_encoding.md R61, R74, R75): where one waits, what a bad response to a
single access ends with, and that nothing but request frames is ever sent. -/

namespace Sys2Proof.Proofs

open Sys2Proof.Machine

variable {s t u : State}

/-! ### A frame that waits or is refused -/

theorem wireFrame_waits {c : Instr} (hu : Unanswered s) (hc : s.cmd = some c) (hcall : s.call = none ∨ s.call = some .xfer)
    (f : Frame) : wireFrame f s = .next (issueXfer f s) := by
  rw [wireFrame_inTransfer hc hcall, run_unanswered (show Unanswered (issueXfer f s) from hu)]

theorem wireFrame_outside (h : s.cmd = none ∨ (s.call ≠ none ∧ s.call ≠ some .xfer)) (f : Frame) :
    wireFrame f s = .refused .frameOutsideTransfer := by
  refine if_neg fun ⟨busy, hcall⟩ => ?_
  obtain hc | ⟨hnone, hxfer⟩ := h
  · simp [isBusy, hc] at busy
  · exact hcall.elim hnone hxfer

/-- Settles O28: both frames run as `wireFrame`, which waits in a single transfer and stops anywhere else. -/
theorem framesWaitOrAreRefused : Obligations.FramesWaitOrAreRefused := by
  intro s addr v
  simp only [exec, execRdf, execWrf, readFrame_addr7, writeFrame_addr7]
  refine ⟨fun hu busy hcall => ?_, fun h => ⟨wireFrame_outside h _, wireFrame_outside h _⟩⟩
  obtain ⟨c, hc⟩ := Option.ne_none_iff_exists'.mp busy
  exact ⟨wireFrame_waits hu hc hcall _, wireFrame_waits hu hc hcall _⟩

/-! ### A single access on an open handle -/

/-- An admitted command that issues a frame exchanges it as the frame of the command in progress. -/
theorem command_wireFrame {c : Instr} {start : State → State} {f : Frame} (ha : admission c s = none)
    (hs : start (begin c s) = issueXfer f (begin c s)) : command c start s = wireFrame f (begin c s) := by
  rw [command_admitted ha, hs, wireFrame_inTransfer rfl (.inl rfl)]

/-- What ends a command begun at `s` ends it from `s`: to begin changes nothing an end is told by. -/
theorem ends_ofBegin {c : Instr} {r : Result} {events : List Event} {rest : List Reply}
    (h : Ends (begin c s) t r events rest ∧ SameHandle (begin c s) t) : Ends s t r events rest ∧ SameHandle s t := by
  obtain ⟨⟨idle, res, hist, replies, ⟨presented, refused, reason⟩⟩, ⟨⟨isOpen, ch, xcfg⟩, phase, unusable, debug⟩⟩ := h
  exact ⟨⟨idle, res, hist, replies, ⟨presented, refused, reason⟩⟩, ⟨⟨isOpen, ch, xcfg⟩, phase, unusable, debug⟩⟩

/-- `RDREG` that gets the response `r` ends by the check of its byte 0 (R83). -/
theorem rdreg_answered {a : Byte} {r : Frame} {rest : List Reply} (hs : Ready s) (ha : a.getLsbD 7 = false)
    (hr : s.replies = .answer (.ok [r]) :: rest) :
    ∃ t, exec (.rdreg a) s = .next t ∧
      Ends s t (if r.b0 = handshake then .ok (.byte r.b1) else .err (.unexpectedHandshake 0 0 r.b0))
        [.xfer (readFrame a) (some r)] rest ∧ SameHandle s t := by
  have admitted : admission (.rdreg a) s = none := admission_ready hs fun _ _ => nofun
  rw [exec, execRdreg, command_wireFrame admitted (startRdreg_legal ha _)]
  obtain ⟨t, ht, ends⟩ := rdreg_exchanges (s := begin (.rdreg a) s) (.inl rfl) rfl hr
  exact ⟨t, ht, ends_ofBegin ends⟩

/-- `WRREG` that gets the response `r` ends by the checks of its byte 0 and then its byte 1 (R84). -/
theorem wrreg_answered {a : Byte} {r : Frame} {rest : List Reply} (hs : Ready s) (ha : a.getLsbD 7 = false) (v : Byte)
    (hr : s.replies = .answer (.ok [r]) :: rest) :
    ∃ t, exec (.wrreg a v) s = .next t ∧
      Ends s t
        (if r.b0 ≠ handshake then .err (.unexpectedHandshake 0 0 r.b0)
          else if r.b1 ≠ handshake then .err (.unexpectedHandshake 0 1 r.b1) else .ok (.byte v))
        [.xfer (writeFrame a v) (some r)] rest ∧ SameHandle s t := by
  have admitted : admission (.wrreg a v) s = none := admission_ready hs fun _ _ => nofun
  rw [exec, execWrreg, command_wireFrame admitted (startWrreg_legal ha v _)]
  obtain ⟨t, ht, ends⟩ := wrreg_exchanges (s := begin (.wrreg a v) s) (.inl rfl) rfl hr
  exact ⟨t, ht, ends_ofBegin ends⟩

/-- Settles O20: the answered access fails the first check its response does not pass. -/
theorem singleAccessHandshakeFailure : Obligations.SingleAccessHandshakeFailure := by
  intro s a v r rest hs ha hr
  have read := rdreg_answered hs ha hr
  have write := wrreg_answered hs ha v hr
  refine ⟨fun bad => ?_, fun bad => ?_, fun good bad => ?_⟩
  · rw [if_neg (show r.b0 ≠ handshake from bad)] at read; exact read
  · rw [if_pos (show r.b0 ≠ handshake from bad)] at write; exact write
  · rw [if_neg (not_not.mpr (show r.b0 = handshake from good)), if_pos (show r.b1 ≠ handshake from bad)] at write
    exact write

/-! ### What a returned call appends to the history -/

theorem framesSent_append (h h' : List Event) : framesSent (h ++ h') = framesSent h ++ framesSent h' := List.flatMap_append

theorem framesSent_record (e : Event) (s : State) : framesSent (record e s).hist = framesSent s.hist ++ e.frames := by
  rw [record_hist, framesSent_append]
  exact congrArg _ (List.flatMap_singleton Event.frames e)

/-- Nothing was sent between `s` and `u`. -/
def SendsNothing (s u : State) : Prop := framesSent u.hist = framesSent s.hist

theorem sendsNothing_record {e : Event} (h : e.frames = []) (s : State) : SendsNothing s (record e s) := by
  rw [SendsNothing, framesSent_record, h, List.append_nil]

theorem logIfDebug_sendsNothing (item : LogItem) (v : Byte) (s : State) : SendsNothing s (logIfDebug item v s) := by
  unfold logIfDebug
  split
  · exact sendsNothing_record rfl s
  · rfl

theorem rdregReturned_sendsNothing (r : Frame) (s : State) : SendsNothing s (rdregReturned r s) := by
  unfold rdregReturned; dsimp only; split <;> rfl

theorem wrregReturned_sendsNothing (v : Byte) (r : Frame) (s : State) : SendsNothing s (wrregReturned v r s) := by
  unfold wrregReturned; dsimp only; split <;> rfl

theorem porReturned_sendsNothing (r : Frame) (s : State) : SendsNothing s (porReturned r s) := by
  unfold porReturned; dsimp only; split <;> rfl

theorem pidReturned_sendsNothing (r : Frame) (s : State) : SendsNothing s (pidReturned r s) := by
  unfold pidReturned; dsimp only
  split
  · rfl
  · split <;> exact logIfDebug_sendsNothing .productId _ (receive readOk [r] s)

theorem ipidReturned_sendsNothing (r : Frame) (s : State) : SendsNothing s (ipidReturned r s) := by
  unfold ipidReturned; dsimp only
  split
  · rfl
  · have log := fun v => logIfDebug_sendsNothing .inverseProductId v (receive readOk [r] s)
    split
    · exact log _
    · rw [enterB1_eq]; exact log _

theorem rdregsReturned_sendsNothing (ins : List Frame) (s : State) : SendsNothing s (rdregsReturned ins s) := by
  unfold rdregsReturned; dsimp only; split <;> rfl

theorem wrregsReturned_sendsNothing (ins : List Frame) (s : State) : SendsNothing s (wrregsReturned ins s) := by
  unfold wrregsReturned; dsimp only; split <;> rfl

theorem rdsampleReturned_sendsNothing (ins : List Frame) (s : State) : SendsNothing s (rdsampleReturned ins s) := by
  unfold rdsampleReturned; dsimp only
  split
  · rfl
  · split <;> rfl

theorem b1Returned_sendsNothing (ins : List Frame) (s : State) : SendsNothing s (b1Returned ins s) := by
  unfold b1Returned; dsimp only; split <;> rfl

theorem b2Returned_sendsNothing (ins : List Frame) (s : State) : SendsNothing s (b2Returned ins s) := by
  unfold b2Returned; dsimp only; split <;> rfl

theorem initXferReturned_sendsNothing (r : Frame) (s : State) : SendsNothing s (initXferReturned r s) := by
  unfold initXferReturned
  split
  · exact porReturned_sendsNothing r s
  · exact pidReturned_sendsNothing r s
  · exact ipidReturned_sendsNothing r s
  · rfl

theorem xferDelivered_sendsNothing (r : Frame) (s : State) : SendsNothing s (xferDelivered r s) := by
  unfold xferDelivered
  generalize s.cmd = c
  cases c with
  | none => rfl
  | some c =>
    cases c with
    | rdreg a => exact rdregReturned_sendsNothing r s
    | wrreg a v => exact wrregReturned_sendsNothing v r s
    | init => exact initXferReturned_sendsNothing r s
    | _ => rfl

theorem initBatchReturned_sendsNothing (ins : List Frame) (s : State) : SendsNothing s (initBatchReturned ins s) := by
  unfold initBatchReturned
  split
  · exact b1Returned_sendsNothing ins s
  · exact b2Returned_sendsNothing ins s
  · rfl

theorem batchDelivered_sendsNothing (ins : List Frame) (s : State) : SendsNothing s (batchDelivered ins s) := by
  unfold batchDelivered
  generalize s.cmd = c
  cases c with
  | none => rfl
  | some c =>
    cases c with
    | rdregs addrs => exact rdregsReturned_sendsNothing ins s
    | wrregs pairs => exact wrregsReturned_sendsNothing ins s
    | rdsample => exact rdsampleReturned_sendsNothing ins s
    | init => exact initBatchReturned_sendsNothing ins s
    | _ => rfl

theorem handleCallReturned_sendsNothing {f : Byte → Byte → Answer → State → State}
    (hf : ∀ bus cs a s, SendsNothing s (f bus cs a s)) (a : Answer) (s : State) :
    SendsNothing s (handleCallReturned f a s) := by
  unfold handleCallReturned
  split
  · exact hf _ _ a s
  · rfl

theorem openReturned_sendsNothing (bus cs : Byte) (a : Answer) (s : State) : SendsNothing s (openReturned bus cs a s) := by
  have event := sendsNothing_record (e := .opened bus cs (answerOk a)) rfl s
  unfold openReturned; dsimp only
  split <;> exact event

theorem configureReturned_sendsNothing (a : Answer) (s : State) : SendsNothing s (configureReturned a s) := by
  have event := sendsNothing_record (e := .configured xcfgConst (answerOk a)) rfl s
  unfold configureReturned; dsimp only
  split <;> exact event

theorem releaseReturned_sendsNothing (s : State) : SendsNothing s (releaseReturned s) := by
  have event := sendsNothing_record (e := .released) rfl s
  unfold releaseReturned
  generalize s.cmd = c
  cases c with
  | none => rfl
  | some c =>
    cases c with
    | openCh bus cs => exact event
    | closeCh => exact event
    | _ => rfl

theorem delayEnded_sendsNothing (s : State) : SendsNothing s (delayEnded s) := by
  unfold delayEnded
  split
  · rw [delayReturned, enterB2_eq]
    exact sendsNothing_record (e := .delayed settleMs) rfl s
  · rfl

/-! ### What a returned call puts on the wire -/

/-- Defined frames put on the wire after defined frames. -/
theorem onlyDefinedFrames_append {outs : List Frame} (h : OnlyDefinedFrames s.hist)
    (ho : ∀ f ∈ outs, ∃ i, decodeFrame f = .ok i) (hu : framesSent u.hist = framesSent s.hist ++ outs) :
    OnlyDefinedFrames u.hist := by
  rw [OnlyDefinedFrames, hu]
  exact fun f hf => (List.mem_append.mp hf).elim (h f) (ho f)

theorem onlyDefinedFrames_of_quiet (h : OnlyDefinedFrames s.hist) (hu : SendsNothing s u) : OnlyDefinedFrames u.hist :=
  onlyDefinedFrames_append (outs := []) h (by simp) (by rw [List.append_nil]; exact hu)

theorem returned_xfer_sends {f : Frame} (ho : s.outbuf = [f]) (a : Answer) :
    framesSent (returned .xfer a s).hist = framesSent s.hist ++ [f] := by
  obtain h | ⟨r, h⟩ := returned_xfer_cases ho a <;> rw [h]
  · exact framesSent_record (.xfer f none) (endCall s)
  · exact Eq.trans (xferDelivered_sendsNothing r _) (framesSent_record (.xfer f (some r)) (endCall s))

theorem returned_batch_sends (a : Answer) :
    framesSent (returned .xferBatch a s).hist = framesSent s.hist ++ s.outbuf := by
  obtain h | ⟨ins, -, h⟩ := returned_batch_cases rfl a <;> rw [h]
  · exact framesSent_record (.xferBatch s.outbuf none) (endCall s)
  · exact Eq.trans (batchDelivered_sendsNothing ins _) (framesSent_record (.xferBatch s.outbuf (some ins)) (endCall s))

theorem readFrames_defined {addrs : List Byte} (h : ∀ a ∈ addrs, isIllegalAddr a = false) :
    ∀ f ∈ readFrames addrs, ∃ i, decodeFrame f = .ok i :=
  List.forall_mem_map.mpr fun a ha => ⟨_, decodeFrame_readFrame (h a ha)⟩

theorem writeFrames_defined (pairs : List (Byte × Byte)) : ∀ f ∈ writeFrames pairs, ∃ i, decodeFrame f = .ok i :=
  List.forall_mem_map.mpr fun p _ => ⟨_, decodeFrame_writeFrame p.1 p.2⟩

/-- What a batch waits with is request frames (R75). -/
theorem inFlight_batch {c : Instr} {q : Seq} {outs : List Frame} (hok : contractOk c)
    (h : inFlight c q = some (.xferBatch, outs)) : ∀ f ∈ outs, ∃ i, decodeFrame f = .ok i := by
  cases c with
  | rdregs addrs =>
    obtain ⟨-, rfl⟩ : q = .run ∧ readFrames addrs = outs := by simpa [inFlight] using h
    exact readFrames_defined hok
  | wrregs pairs =>
    obtain ⟨-, rfl⟩ : q = .run ∧ writeFrames pairs = outs := by simpa [inFlight] using h
    exact writeFrames_defined pairs
  | rdsample =>
    obtain ⟨-, rfl⟩ : q = .run ∧ readFrames motionRegs = outs := by simpa [inFlight] using h
    exact readFrames_defined (by decide)
  | init =>
    cases q with
    | b1 => cases h; exact writeFrames_defined batch1
    | b2 => cases h; exact writeFrames_defined batch2
    | _ => simp [inFlight, initInFlight] at h
  | _ => simp [inFlight] at h

theorem waitsIn_xfer {c : Instr} (h : WaitsIn c s) (hp : s.call = some .xfer) :
    ∃ f i, s.outbuf = [f] ∧ decodeFrame f = .ok i := by
  obtain ⟨p, hne, hcall⟩ | ⟨hok, ⟨p, outs⟩, hin, hcall, hout⟩ := waitsIn_cases h
  · exact absurd (Option.some.inj (hcall.symm.trans hp)) hne
  · obtain rfl : p = .xfer := Option.some.inj (hcall.symm.trans hp)
    rw [hout]
    exact inFlight_xfer hok hin

/-- A batch in progress is the batch of its command's stage: `OPEN` and `CLOSE` wait in calls of their own. -/
theorem waitsIn_batch {c : Instr} (h : WaitsIn c s) (hp : s.call = some .xferBatch) :
    ∀ f ∈ s.outbuf, ∃ i, decodeFrame f = .ok i := by
  cases c with
  | openCh bus cs =>
    obtain ⟨-, -, hcall⟩ := h
    simp [hp] at hcall
  | closeCh =>
    obtain ⟨-, -, hcall⟩ := h
    simp [hp] at hcall
  | _ =>
    obtain ⟨-, -, hok, -, ⟨p, outs⟩, hin, hcall, hout⟩ := h
    obtain rfl : p = .xferBatch := Option.some.inj (hcall.symm.trans hp)
    rw [hout]
    exact inFlight_batch hok hin

/-- A call that returns in a state of the invariant has put request frames on the wire, or nothing. -/
theorem onlyDefinedFrames_returned (h : Inv s) (hs : OnlyDefinedFrames s.hist) {p : Pending} (hp : s.call = some p)
    (a : Answer) : OnlyDefinedFrames (returned p a s).hist := by
  cases hc : s.cmd with
  | none => rw [(h.idle hc).noCall] at hp; cases hp
  | some c =>
    have waits := h.busy c hc
    have quiet {u : State} (hu : SendsNothing (endCall s) u) : OnlyDefinedFrames u.hist := onlyDefinedFrames_of_quiet hs hu
    cases p with
    | tOpen => exact quiet (handleCallReturned_sendsNothing openReturned_sendsNothing a _)
    | tConfigure => exact quiet (handleCallReturned_sendsNothing (fun _ _ => configureReturned_sendsNothing) a _)
    | tRelease => exact quiet (releaseReturned_sendsNothing _)
    | delay => exact quiet (delayEnded_sendsNothing _)
    | xfer =>
      obtain ⟨f, i, hout, hd⟩ := waitsIn_xfer waits hp
      exact onlyDefinedFrames_append hs (List.forall_mem_singleton.mpr ⟨i, hd⟩) (returned_xfer_sends hout a)
    | xferBatch => exact onlyDefinedFrames_append hs (waitsIn_batch waits hp) (returned_batch_sends a)

/-! ### What a step puts on the wire -/

theorem onlyDefinedFrames_run (h : Inv s) (hs : OnlyDefinedFrames s.hist) : OnlyDefinedFrames (run s).hist := by
  refine (drain_induction (P := fun u => Inv u ∧ OnlyDefinedFrames u.hist) ?_ ?_ s.replies s ⟨h, hs⟩).2
  · rintro u replies ⟨h, hs⟩
    exact ⟨inv_setReplies h replies, hs⟩
  · rintro u p a ⟨h, hs⟩ hp
    exact ⟨inv_returned h hp a, onlyDefinedFrames_returned h hs hp a⟩

/-- The start of a command records nothing: no call has returned yet. -/
theorem startOf_hist (c : Instr) (s : State) : (startOf c s).hist = s.hist := by
  cases c with
  | setdbg d => dsimp only [startOf]; unfold startSetdbg; split <;> rfl
  | rdreg a => dsimp only [startOf]; unfold startRdreg; split <;> rfl
  | wrreg a v => dsimp only [startOf]; unfold startWrreg; split <;> rfl
  | rdregs addrs => dsimp only [startOf]; unfold startRdregs startBatchRead; split <;> rfl
  | wrregs pairs => dsimp only [startOf]; unfold startWrregs startBatchWrite; split <;> rfl
  | init => dsimp only [startOf]; unfold startInit; split <;> rfl
  | _ => rfl

/-- Settles O55: a step sends only what the calls return it lets return, and each waits with request frames. -/
theorem onlyRequestFramesAreSent : Obligations.OnlyRequestFramesAreSent := by
  intro s t h hs hstep
  cases step_cases hstep with
  | waited presented replies => exact hs
  | refused r presented replies => exact hs
  | command presented replies format wellFormed admitted =>
    have noCommand := admitted_noCommand admitted
    have started := startOf_cases (s := withInputs presented replies s) (fun ho => h.channel ho noCommand) format admitted
    refine onlyDefinedFrames_run (inv_afterStart (inv_withInputs h presented replies) noCommand wellFormed started) ?_
    rw [startOf_hist]
    exact hs
  | frame busy outbuf call => rw [issueXfer_inFlight h busy outbuf call]; exact onlyDefinedFrames_run h hs
  | returned busy => exact onlyDefinedFrames_run h hs

end Sys2Proof.Proofs
end

section
/-! PROOFS. The assembler (spec/30_encoding.md R77): the tokens of a line, the value of a number, and the command each line
assembles to. -/

namespace Sys2Proof.Proofs

open Sys2Proof.Machine

/-! ### Tokens -/

/-- The characters that are no part of an atom: the comment sign, the blanks and the punctuation. -/
abbrev specialChars : List Char := [';', ' ', '\t', '\r', ',', '[', ']', '(', ')']

/-- Characters that stand together for one atom. -/
abbrev IsAtom (cs : List Char) : Prop := cs ≠ [] ∧ ∀ c ∈ cs, c ∉ specialChars

theorem tokens_atomChar {c : Char} (h : c ∉ specialChars) (atom rest : List Char) :
    tokens atom (c :: rest) = tokens (c :: atom) rest := by
  simp only [List.mem_cons, List.not_mem_nil, or_false, not_or] at h
  simp [tokens, punctuation, h]

theorem tokens_atomChars {cs : List Char} (h : ∀ c ∈ cs, c ∉ specialChars) (atom rest : List Char) :
    tokens atom (cs ++ rest) = tokens (cs.reverse ++ atom) rest := by
  induction cs generalizing atom with
  | nil => rfl
  | cons c cs ih =>
    obtain ⟨hc, hcs⟩ := List.forall_mem_cons.mp h
    rw [List.cons_append, tokens_atomChar hc, ih hcs, List.reverse_cons, List.append_assoc]
    rfl

theorem flush_reverse {cs : List Char} (h : cs ≠ []) : flush cs.reverse = [.atom cs] := by
  simp [flush, h]

theorem tokens_blank (atom rest : List Char) : tokens atom (' ' :: rest) = flush atom ++ tokens [] rest := by
  simp [tokens]

theorem tokens_punctuation {c : Char} {t : Token} (h : punctuation c = some t) (atom rest : List Char) :
    tokens atom (c :: rest) = flush atom ++ t :: tokens [] rest := by
  have plain : ∀ c ∈ [';', ' ', '\t', '\r'], punctuation c = none := by simp [punctuation]
  have hc : c ∉ [';', ' ', '\t', '\r'] := fun hc => by rw [plain c hc] at h; cases h
  simp only [List.mem_cons, List.not_mem_nil, or_false, not_or] at hc
  simp [tokens, hc, h]

section Atom

variable {cs : List Char} (h : IsAtom cs)

include h

theorem tokens_atom : tokens [] cs = [.atom cs] := by
  have ended := tokens_atomChars h.2 [] []
  rw [List.append_nil, List.append_nil] at ended
  rw [ended]
  exact flush_reverse h.1

theorem tokens_atom_blank (rest : List Char) : tokens [] (cs ++ ' ' :: rest) = .atom cs :: tokens [] rest := by
  rw [tokens_atomChars h.2, tokens_blank, List.append_nil, flush_reverse h.1]
  rfl

theorem tokens_atom_punctuation {c : Char} {t : Token} (hc : punctuation c = some t) (rest : List Char) :
    tokens [] (cs ++ c :: rest) = .atom cs :: t :: tokens [] rest := by
  rw [tokens_atomChars h.2, tokens_punctuation hc, List.append_nil, flush_reverse h.1]
  rfl

end Atom

/-- A comment ends the line (R77). -/
theorem tokens_comment (atom line comment : List Char) : tokens atom (line ++ ';' :: comment) = tokens atom line := by
  fun_induction tokens atom line with
  | case1 atom => simp [tokens]
  | case2 atom rest => simp [tokens]
  | case3 atom c rest hc hblank ih => simp only [List.cons_append, tokens, hc, hblank, if_false, if_true, ih]
  | case4 atom c rest hc hblank t ht ih => simp only [List.cons_append, tokens, hc, hblank, if_false, ht, ih]
  | case5 atom c rest hc hblank ht ih => simp only [List.cons_append, tokens, hc, hblank, if_false, ht, ih]

/-! ### Mnemonics and numbers are atoms -/

/-- Only letters have another lower case (R77). -/
theorem isAtom_of_lower {m : List Char} (h : IsAtom (m.map lower)) : IsAtom m := by
  have fixed : ∀ c ∈ specialChars, lower c ∈ specialChars := by simp [lower]
  obtain ⟨hne, hchars⟩ := h
  exact ⟨fun hm => hne (by rw [hm]; rfl), fun c hc special => hchars _ (List.mem_map_of_mem hc) (fixed c special)⟩

theorem digits_chars {base acc n : Nat} {cs : List Char} (h : digits base acc cs = some n) :
    ∀ c ∈ cs, digit base c ≠ none := by
  induction cs generalizing acc with
  | nil => simp
  | cons c cs ih =>
    unfold digits at h
    split at h
    next v hv => exact List.forall_mem_cons.mpr ⟨by simp [hv], ih h⟩
    next => cases h

theorem number_chars {cs : List Char} {n : Nat} (h : number cs = some n) : IsAtom cs := by
  have hex : ∀ c ∈ specialChars, digit 16 c = none := by simp [digit]
  have decimal : ∀ c ∈ specialChars, digit 10 c = none := by simp [digit]
  unfold number at h
  split at h
  next => cases h
  next => cases h
  next rest _ =>
    have chars : ∀ c ∈ rest, c ∉ specialChars := fun c hc special => digits_chars h c hc (hex c special)
    exact ⟨nofun, List.forall_mem_cons.mpr ⟨by decide, List.forall_mem_cons.mpr ⟨by decide, chars⟩⟩⟩
  next hne _ _ => exact ⟨hne, fun c hc special => digits_chars h c hc (decimal c special)⟩

theorem operand_isAtom {cs : List Char} {x : Byte} (h : operand cs = some x) : IsAtom cs := by
  unfold operand at h
  split at h
  next n hn => exact number_chars hn
  next => cases h

/-! ### The value of a number -/

theorem digits_append (base acc : Nat) (cs : List Char) (c : Char) :
    digits base acc (cs ++ [c]) = (digits base acc cs).bind fun n => (digit base c).map (n * base + ·) := by
  induction cs generalizing acc with
  | nil => simp only [List.nil_append, digits, Option.bind_some]; cases digit base c <;> rfl
  | cons d cs ih =>
    simp only [List.cons_append, digits]
    cases digit base d with
    | none => rfl
    | some v => exact ih _

/-- The digits of a number stand for it, in every base whose digits are read back. -/
theorem digits_toDigits {base : Nat} (hb : 1 < base) (hd : ∀ v < base, digit base v.digitChar = some v) (n : Nat) :
    digits base 0 (Nat.toDigits base n) = some n := by
  induction n using Nat.strong_induction_on with
  | _ n ih =>
    rw [Nat.toDigits_eq_if hb]
    split_ifs with hn
    · simp [digits, hd n hn]
    · have smaller : n / base < n := Nat.div_lt_self (by omega) hb
      have last := hd (n % base) (Nat.mod_lt n (by omega))
      rw [digits_append, ih _ smaller, last, Option.bind_some, Option.map_some, Nat.div_add_mod']

theorem number_decimal {cs : List Char} (hne : cs ≠ []) (hx : 'x' ∉ cs) : number cs = digits 10 0 cs := by
  unfold number
  split
  next => exact absurd rfl hne
  next => simp at hx
  next => simp at hx
  next => rfl

theorem number_hexadecimal {cs : List Char} (hne : cs ≠ []) : number ('0' :: 'x' :: cs) = digits 16 0 cs := by
  cases cs with
  | nil => exact absurd rfl hne
  | cons c cs => rfl

theorem operand_of_number {cs : List Char} {n : Nat} (h : number cs = some n) (hn : n < 256) :
    operand cs = some (BitVec.ofNat 8 n) := by
  simp only [operand, h, hn, if_true]

theorem operand_decimal {n : Nat} (hn : n < 256) : operand (Nat.toDigits 10 n) = some (BitVec.ofNat 8 n) := by
  have hx : 'x' ∉ Nat.toDigits 10 n := fun h =>
    absurd (Nat.isDigit_of_mem_toDigits (by decide) (le_refl 10) h) (by decide)
  refine operand_of_number ?_ hn
  rw [number_decimal Nat.toDigits_ne_nil hx]
  exact digits_toDigits (by decide) (by decide) n

theorem operand_hexadecimal {n : Nat} (hn : n < 256) :
    operand ('0' :: 'x' :: Nat.toDigits 16 n) = some (BitVec.ofNat 8 n) := by
  refine operand_of_number ?_ hn
  rw [number_hexadecimal Nat.toDigits_ne_nil]
  exact digits_toDigits (by decide) (by decide) n

/-! ### What a line assembles to -/

theorem oneOperand_eq {f : Byte → Instr} {args : List Token} {i : Instr} (h : oneOperand f args = some i) :
    ∃ x, i = f x := by
  unfold oneOperand at h
  split at h
  next =>
    split at h <;> cases h
    exact ⟨_, rfl⟩
  next => cases h

theorem twoOperands_eq {f : Byte → Byte → Instr} {args : List Token} {i : Instr} (h : twoOperands f args = some i) :
    ∃ x y, i = f x y := by
  unfold twoOperands at h
  split at h
  next =>
    split at h <;> cases h
    exact ⟨_, _, rfl⟩
  next => cases h

theorem noOperand_eq {i j : Instr} {args : List Token} (h : noOperand i args = some j) : j = i := by
  unfold noOperand at h
  split at h <;> cases h
  rfl

/-- The assembler writes commands only. -/
theorem parseCommand_format {m : List Char} {args : List Token} {i : Instr} (h : parseCommand m args = some i) :
    i.format = .cmd := by
  unfold parseCommand at h
  split_ifs at h
  · obtain ⟨x, y, rfl⟩ := twoOperands_eq h; rfl
  · obtain rfl := noOperand_eq h; rfl
  · obtain ⟨x, rfl⟩ := oneOperand_eq h; rfl
  · obtain ⟨x, rfl⟩ := oneOperand_eq h; rfl
  · obtain ⟨x, y, rfl⟩ := twoOperands_eq h; rfl
  · obtain ⟨addrs, -, rfl⟩ := Option.map_eq_some_iff.mp h; rfl
  · obtain ⟨pairs, -, rfl⟩ := Option.map_eq_some_iff.mp h; rfl
  · obtain rfl := noOperand_eq h; rfl
  · obtain rfl := noOperand_eq h; rfl

theorem parseCommand_isAtom {name : List Char} {args : List Token} {i : Instr} (h : parseCommand name args = some i) :
    IsAtom name := by
  unfold parseCommand at h
  split_ifs at h <;> subst name <;> simp [IsAtom]

/-- A mnemonic, in any case, is one atom. -/
theorem mnemonic_isAtom {m name : List Char} {args : List Token} {i : Instr} (hm : m.map lower = name)
    (hp : parseCommand name args = some i) : IsAtom m :=
  isAtom_of_lower (hm ▸ parseCommand_isAtom hp)

theorem assembleLine_command {line m name : List Char} {args : List Token} {i : Instr} (ht : tokens [] line = .atom m :: args)
    (hm : m.map lower = name) (hp : parseCommand name args = some i) (hi : i.WellFormed) :
    assembleLine line = some [encode i] := by
  simp only [assembleLine, ht, hm, hp, hi, if_true]

/-- A line that assembles to one byte string is one command (R77). -/
theorem assembleLine_one {line : List Char} {bytes : List Byte} (h : assembleLine line = some [bytes]) :
    ∃ i : Instr, i.WellFormed ∧ i.format = .cmd ∧ bytes = encode i ∧ decodeCmd bytes = .ok (i, []) := by
  unfold assembleLine at h
  split at h
  next => cases h
  next m args _ =>
    split at h
    next i hp =>
      split_ifs at h with hi
      cases h
      have format := parseCommand_format hp
      have decoded := decodeCmd_encode hi format []
      rw [List.append_nil] at decoded
      exact ⟨i, hi, format, rfl, decoded⟩
    next => cases h
  next => cases h

theorem assembleLine_comment (line comment : List Char) : assembleLine (line ++ ';' :: comment) = assembleLine line := by
  unfold assembleLine
  rw [tokens_comment]

theorem splitLines_append {line : List Char} (h : '\n' ∉ line) (before text : List Char) :
    splitLines before (line ++ '\n' :: text) = (before.reverse ++ line) :: splitLines [] text := by
  induction line generalizing before with
  | nil => simp [splitLines]
  | cons c line ih =>
    obtain ⟨hc, hline⟩ : '\n' ≠ c ∧ '\n' ∉ line := by simpa using h
    rw [List.cons_append, splitLines, if_neg hc.symm, ih hline, List.reverse_cons, List.append_assoc]
    rfl

/-- Commands stand one a line (R77). -/
theorem assemble_line {line : List Char} (h : '\n' ∉ line) (text : List Char) :
    assemble (line ++ '\n' :: text) = (assembleLine line).bind fun one => (assemble text).map fun more => one ++ more := by
  unfold assemble
  rw [splitLines_append h, List.reverse_nil, List.nil_append, assembleLines]
  cases assembleLine line with
  | none => rfl
  | some one => cases assembleLines (splitLines [] text) <;> rfl

theorem parse_oneOperand {a : List Char} {x : Byte} (h : operand a = some x) (f : Byte → Instr) :
    oneOperand f [.atom a] = some (f x) := by
  simp only [oneOperand, h]

theorem parse_twoOperands {a b : List Char} {x y : Byte} (ha : operand a = some x) (hb : operand b = some y)
    (f : Byte → Byte → Instr) : twoOperands f [.atom a, .comma, .atom b] = some (f x y) := by
  simp only [twoOperands, ha, hb]

/-! ### Lines with no, one and two operands -/

section Lines

variable {m name a b : List Char} {x y : Byte} {i : Instr}

theorem assembleLine_noOperand (hm : m.map lower = name) (hp : parseCommand name [] = some i)
    (hi : i.WellFormed) : assembleLine m = some [encode i] := by
  have atom := mnemonic_isAtom hm hp
  exact assembleLine_command (tokens_atom atom) hm hp hi

theorem assembleLine_oneOperand (hm : m.map lower = name) (ha : operand a = some x)
    (hp : parseCommand name [.atom a] = some i) (hi : i.WellFormed) : assembleLine (m ++ ' ' :: a) = some [encode i] := by
  have atom := mnemonic_isAtom hm hp
  refine assembleLine_command ?_ hm hp hi
  rw [tokens_atom_blank atom, tokens_atom (operand_isAtom ha)]

/-- The tokens of two operands up to the end of the second. -/
theorem tokens_twoOperands (ha : operand a = some x) (rest : List Char) :
    tokens [] (a ++ ',' :: ' ' :: rest) = .atom a :: .comma :: tokens [] rest := by
  rw [tokens_atom_punctuation (operand_isAtom ha) rfl, tokens_blank]
  rfl

theorem assembleLine_twoOperands (hm : m.map lower = name) (ha : operand a = some x)
    (hb : operand b = some y) (hp : parseCommand name [.atom a, .comma, .atom b] = some i) (hi : i.WellFormed) :
    assembleLine (m ++ ' ' :: (a ++ ',' :: ' ' :: b)) = some [encode i] := by
  have atom := mnemonic_isAtom hm hp
  refine assembleLine_command ?_ hm hp hi
  rw [tokens_atom_blank atom, tokens_twoOperands ha, tokens_atom (operand_isAtom hb)]

end Lines

/-! ### Lines with a list -/

section Lists

variable {α : Type} {text : α → List Char} {toks : α → List Token}

/-- The text of a list element, read up to the punctuation after it, is its tokens. -/
def ReadsAs (cs : List Char) (ts : List Token) : Prop :=
  ∀ (c : Char) (t : Token) (rest : List Char), punctuation c = some t →
    tokens [] (cs ++ c :: rest) = ts ++ t :: tokens [] rest

/-- The tokens of the elements after the first, each behind its comma, and of the closing bracket. -/
def moreTokens (toks : α → List Token) : List α → List Token
  | [] => [.closeBracket]
  | x :: xs => .comma :: (toks x ++ moreTokens toks xs)

/-- The tokens of a bracketed list. -/
def listTokens (toks : α → List Token) : List α → List Token
  | [] => [.openBracket, .closeBracket]
  | x :: xs => .openBracket :: (toks x ++ moreTokens toks xs)

theorem tokens_elements {x : α} {xs : List α} (h : ∀ y ∈ x :: xs, ReadsAs (text y) (toks y)) :
    tokens [] (List.intercalate [',', ' '] ((x :: xs).map text) ++ [']']) = toks x ++ moreTokens toks xs := by
  induction xs generalizing x with
  | nil =>
    have last := h x (List.mem_singleton_self x) ']' .closeBracket [] rfl
    rw [List.map_singleton, List.intercalate_singleton, last]
    rfl
  | cons y ys ih =>
    obtain ⟨hx, hys⟩ := List.forall_mem_cons.mp h
    have line : List.intercalate [',', ' '] ((x :: y :: ys).map text) ++ [']'] =
        text x ++ ',' :: ' ' :: (List.intercalate [',', ' '] ((y :: ys).map text) ++ [']']) := by
      simp [List.intercalate_cons_cons]
    rw [line, hx ',' .comma _ rfl, tokens_blank, ih hys]
    rfl

theorem tokens_list {xs : List α} (h : ∀ x ∈ xs, ReadsAs (text x) (toks x)) :
    tokens [] ('[' :: (List.intercalate [',', ' '] (xs.map text) ++ [']'])) = listTokens toks xs := by
  cases xs with
  | nil => rfl
  | cons x xs =>
    rw [tokens_punctuation (t := .openBracket) rfl, tokens_elements h]
    rfl

/-- A line of a mnemonic and a list of elements. -/
theorem assembleLine_list {m name : List Char} {i : Instr} {xs : List α} (hm : m.map lower = name)
    (h : ∀ x ∈ xs, ReadsAs (text x) (toks x)) (hp : parseCommand name (listTokens toks xs) = some i) (hi : i.WellFormed) :
    assembleLine (m ++ ' ' :: '[' :: (List.intercalate [',', ' '] (xs.map text) ++ [']'])) = some [encode i] := by
  have atom := mnemonic_isAtom hm hp
  refine assembleLine_command ?_ hm hp hi
  rw [tokens_atom_blank atom, tokens_list h]

end Lists

/-! ### The list of `rdregs` -/

/-- The tokens of an address. -/
def addrTokens (a : List Char) : List Token := [.atom a]

theorem addr_readsAs {texts : List (List Char)} {addrs : List Byte} (h : texts.map operand = addrs.map some) :
    ∀ a ∈ texts, ReadsAs a (addrTokens a) := by
  intro a ha c t rest hc
  obtain ⟨x, -, hx⟩ := List.mem_map.mp (h ▸ List.mem_map_of_mem ha)
  exact tokens_atom_punctuation (operand_isAtom hx.symm) hc rest

theorem moreAddrs_tokens {texts : List (List Char)} {addrs : List Byte} (h : texts.map operand = addrs.map some) :
    moreAddrs (moreTokens addrTokens texts) = some addrs := by
  induction texts generalizing addrs with
  | nil =>
    obtain rfl : addrs = [] := by simpa using h.symm
    rfl
  | cons a texts ih =>
    cases addrs with
    | nil => cases h
    | cons x addrs =>
      obtain ⟨hx, hrest⟩ := List.cons.inj h
      have more := ih hrest
      simp only [moreTokens, addrTokens, List.cons_append, List.nil_append, moreAddrs, hx] at more ⊢
      rw [more]

theorem addrList_tokens {texts : List (List Char)} {addrs : List Byte} (h : texts.map operand = addrs.map some) :
    addrList (listTokens addrTokens texts) = some addrs := by
  have more := moreAddrs_tokens h
  cases texts with
  | nil => exact more
  | cons a texts => exact more

/-! ### The list of `wrregs` -/

/-- The text of an address and value pair. -/
def pairText (p : List Char × List Char) : List Char := '(' :: (p.1 ++ ',' :: ' ' :: p.2 ++ [')'])

/-- The tokens of an address and value pair. -/
def pairTokens (p : List Char × List Char) : List Token := [.openParen, .atom p.1, .comma, .atom p.2, .closeParen]

/-- The operands of each pair of texts are those of the pair of bytes. -/
abbrev PairOperands (texts : List (List Char × List Char)) (pairs : List (Byte × Byte)) : Prop :=
  (texts.map fun t => (operand t.1, operand t.2)) = pairs.map fun p => (some p.1, some p.2)

theorem pair_readsAs {texts : List (List Char × List Char)} {pairs : List (Byte × Byte)} (h : PairOperands texts pairs) :
    ∀ p ∈ texts, ReadsAs (pairText p) (pairTokens p) := by
  intro p hp c t rest hc
  have mem := List.mem_map_of_mem (f := fun t : List Char × List Char => (operand t.1, operand t.2)) hp
  obtain ⟨q, -, hq⟩ := List.mem_map.mp (h ▸ mem)
  obtain ⟨ha, hv⟩ := Prod.mk.inj hq
  have text : pairText p ++ c :: rest = '(' :: (p.1 ++ ',' :: ' ' :: (p.2 ++ ')' :: c :: rest)) := by simp [pairText]
  rw [text, tokens_punctuation (t := .openParen) rfl, tokens_twoOperands ha.symm,
    tokens_atom_punctuation (operand_isAtom hv.symm) (t := .closeParen) rfl, tokens_punctuation hc]
  rfl

theorem morePairs_tokens {texts : List (List Char × List Char)} {pairs : List (Byte × Byte)} (h : PairOperands texts pairs) :
    morePairs (moreTokens pairTokens texts) = some pairs := by
  induction texts generalizing pairs with
  | nil =>
    obtain rfl : pairs = [] := by simpa using h.symm
    rfl
  | cons p texts ih =>
    cases pairs with
    | nil => cases h
    | cons q pairs =>
      obtain ⟨hq, hrest⟩ := List.cons.inj h
      obtain ⟨ha, hv⟩ := Prod.mk.inj hq
      have more := ih hrest
      simp only [moreTokens, pairTokens, List.cons_append, List.nil_append, morePairs, ha, hv] at more ⊢
      rw [more]

theorem pairList_tokens {texts : List (List Char × List Char)} {pairs : List (Byte × Byte)} (h : PairOperands texts pairs) :
    pairList (listTokens pairTokens texts) = some pairs := by
  have more := morePairs_tokens h
  cases texts with
  | nil => exact more
  | cons p texts => exact more

/-- Settles O8: the tokens of each line are its mnemonic and the tokens of its operands, which are read back. -/
theorem assembledLinesAreCommands : Obligations.AssembledLinesAreCommands := by
  refine ⟨fun line bytes => assembleLine_one, fun n hn => ⟨operand_decimal hn, operand_hexadecimal hn⟩, assembleLine_comment,
    fun line text h => assemble_line h text, fun m => ⟨fun hm => ?close, fun hm => ?init, fun hm => ?rdsample⟩,
    fun m a x ha => ⟨fun hm => ?setdbg, fun hm => ?rdreg⟩, fun m a b x y ha hb => ⟨fun hm => ?open_, fun hm => ?wrreg⟩,
    fun m texts addrs hm h hl => ?rdregs, fun m texts pairs hm h hl => ?wrregs⟩
  case close => exact assembleLine_noOperand (i := .closeCh) hm rfl rfl
  case init => exact assembleLine_noOperand (i := .init) hm rfl rfl
  case rdsample => exact assembleLine_noOperand (i := .rdsample) hm rfl rfl
  case setdbg => exact assembleLine_oneOperand (i := .setdbg x) hm ha (parse_oneOperand ha .setdbg) rfl
  case rdreg => exact assembleLine_oneOperand (i := .rdreg x) hm ha (parse_oneOperand ha .rdreg) rfl
  case open_ => exact assembleLine_twoOperands hm ha hb (parse_twoOperands ha hb .openCh) rfl
  case wrreg => exact assembleLine_twoOperands hm ha hb (parse_twoOperands ha hb .wrreg) rfl
  case rdregs =>
    have parsed := congrArg (Option.map Instr.rdregs) (addrList_tokens h)
    have list := assembleLine_list (text := id) hm (addr_readsAs h) parsed (decide_eq_true hl)
    rwa [List.map_id] at list
  case wrregs =>
    have parsed := congrArg (Option.map Instr.wrregs) (pairList_tokens h)
    exact assembleLine_list (text := pairText) hm (pair_readsAs h) parsed (decide_eq_true hl)

end Sys2Proof.Proofs
end

section
/-! PROOFS. The validations of response frames (spec/40_register_protocol.md R81, R82, R93): good frames pass, and the first
other one is reported at its index. -/

namespace Sys2Proof.Proofs

open Sys2Proof.Machine

/-- Frames with the handshake in byte 0 pass the read validation, which goes on behind them. -/
theorem validateReadFrom_append {good : List Frame} (h : ∀ f ∈ good, f.b0 = handshake) (k : Nat) (rest : List Frame) :
    validateReadFrom k (good ++ rest) = (validateReadFrom (k + good.length) rest).map (good.map Frame.b1 ++ ·) := by
  induction good generalizing k with
  | nil => cases hv : validateReadFrom k rest <;> simp [hv, Except.map]
  | cons f good ih =>
    obtain ⟨hf, hgood⟩ := List.forall_mem_cons.mp h
    have shift : k + 1 + good.length = k + (good.length + 1) := by omega
    rw [List.cons_append, validateReadFrom_cons_ok hf, ih hgood, shift, List.length_cons]
    cases validateReadFrom (k + (good.length + 1)) rest <;> rfl

theorem validateRead_good {good : List Frame} (h : ∀ f ∈ good, f.b0 = handshake) :
    validateRead good = .ok (good.map Frame.b1) := by
  have pass := validateReadFrom_append h 0 []
  simpa [validateRead, validateReadFrom, Except.map] using pass

theorem validateRead_firstBad {good more : List Frame} {bad : Frame} (h : ∀ f ∈ good, f.b0 = handshake)
    (hb : bad.b0 ≠ handshake) :
    validateRead (good ++ bad :: more) = .error (.unexpectedHandshake good.length 0 bad.b0) := by
  rw [validateRead, validateReadFrom_append h, validateReadFrom_cons_bad hb, Nat.zero_add]
  rfl

theorem validateWriteFrom_cons_ok {check1 : Bool} {f : Frame} (h : writeOk check1 f = true) (k : Nat) (fs : List Frame) :
    validateWriteFrom check1 k (f :: fs) = validateWriteFrom check1 (k + 1) fs := by
  obtain ⟨h0, h1⟩ : f.b0 = handshake ∧ (check1 = false ∨ f.b1 = handshake) := by simpa [writeOk] using h
  have pass : ¬(check1 = true ∧ f.b1 ≠ handshake) := fun ⟨hc, hb⟩ => h1.elim (by simp [hc]) hb
  rw [validateWriteFrom, if_neg (not_not.mpr h0), if_neg pass]

theorem validateWriteFrom_cons_bad0 {check1 : Bool} {f : Frame} (h : f.b0 ≠ handshake) (k : Nat) (fs : List Frame) :
    validateWriteFrom check1 k (f :: fs) = .error (.unexpectedHandshake k 0 f.b0) := if_pos h

theorem validateWriteFrom_cons_bad1 {f : Frame} (h0 : f.b0 = handshake) (h1 : f.b1 ≠ handshake) (k : Nat) (fs : List Frame) :
    validateWriteFrom true k (f :: fs) = .error (.unexpectedHandshake k 1 f.b1) := by
  rw [validateWriteFrom, if_neg (not_not.mpr h0), if_pos ⟨rfl, h1⟩]

/-- Good frames pass the write validation, which goes on behind them. -/
theorem validateWriteFrom_append {check1 : Bool} {good : List Frame} (h : ∀ f ∈ good, writeOk check1 f = true) (k : Nat)
    (rest : List Frame) :
    validateWriteFrom check1 k (good ++ rest) = validateWriteFrom check1 (k + good.length) rest := by
  induction good generalizing k with
  | nil => rfl
  | cons f good ih =>
    obtain ⟨hf, hgood⟩ := List.forall_mem_cons.mp h
    have shift : k + 1 + good.length = k + (good.length + 1) := by omega
    rw [List.cons_append, validateWriteFrom_cons_ok hf, ih hgood, shift, List.length_cons]

section Write

variable {check1 : Bool} {good more : List Frame} {bad : Frame} (h : ∀ f ∈ good, writeOk check1 f = true)

include h

theorem validateWrite_good : validateWrite check1 good = .ok () := by
  have pass := validateWriteFrom_append h 0 []
  rwa [List.append_nil] at pass

theorem validateWrite_firstBad0 (hb : bad.b0 ≠ handshake) :
    validateWrite check1 (good ++ bad :: more) = .error (.unexpectedHandshake good.length 0 bad.b0) := by
  rw [validateWrite, validateWriteFrom_append h, validateWriteFrom_cons_bad0 hb, Nat.zero_add]

end Write

theorem validateWrite_firstBad1 {good more : List Frame} {bad : Frame} (h : ∀ f ∈ good, writeOk true f = true)
    (hb0 : bad.b0 = handshake) (hb1 : bad.b1 ≠ handshake) :
    validateWrite true (good ++ bad :: more) = .error (.unexpectedHandshake good.length 1 bad.b1) := by
  rw [validateWrite, validateWriteFrom_append h, validateWriteFrom_cons_bad1 hb0 hb1, Nat.zero_add]

theorem writeOk_both {good : List Frame} (h : ∀ f ∈ good, f = ⟨0xFF#8, 0xFF#8⟩) : ∀ f ∈ good, writeOk true f = true := by
  intro f hf
  rw [h f hf]
  rfl

theorem writeOk_byte0 {good : List Frame} (h : ∀ f ∈ good, f.b0 = 0xFF#8) : ∀ f ∈ good, writeOk false f = true := by
  intro f hf
  simp [writeOk, h f hf, handshake]

/-- Settles O12: the good frames pass and the bad one behind them is the first the loop stops at. -/
theorem readValidationReportsTheFirstFailure : Obligations.ReadValidationReportsTheFirstFailure := fun _ h =>
  ⟨validateRead_good h, fun _ _ bad => validateRead_firstBad h bad⟩

/-- Settles O13: as for the read validation, with byte 0 of the bad frame looked at before byte 1. -/
theorem writeValidationReportsTheFirstFailure : Obligations.WriteValidationReportsTheFirstFailure := by
  refine ⟨fun good h => ?checked, fun good h => ?unchecked⟩
  case checked =>
    have pass := writeOk_both h
    exact ⟨validateWrite_good pass, fun bad more => ⟨validateWrite_firstBad0 pass, validateWrite_firstBad1 pass⟩⟩
  case unchecked =>
    have pass := writeOk_byte0 h
    exact ⟨validateWrite_good pass, fun bad more => validateWrite_firstBad0 pass⟩

end Sys2Proof.Proofs
end

section
/-! PROOFS. The register accesses on an open handle (spec/40_register_protocol.md R80 to R99): what admission refuses, what an
access with a bad address ends with, and what each answer of the transport ends an access with. -/

namespace Sys2Proof.Proofs

open Sys2Proof.Machine

variable {s t u : State}

/-! ### Admission -/

theorem admission_busy (h : s.cmd ≠ none) (c : Instr) : admission c s = some .busy :=
  if_pos (Option.isSome_iff_ne_none.mpr h)

section Admission

variable {c : Instr} (hn : s.cmd = none)

include hn

theorem admission_notOpen (ho : s.isOpen = false) (hc : ∀ bus cs, c ≠ .openCh bus cs) : admission c s = some .notOpen := by
  cases c with
  | openCh bus cs => exact absurd rfl (hc bus cs)
  | _ => simp [admission, isBusy, hn, ho]

theorem admission_alreadyOpen (ho : s.isOpen = true) (bus cs : Byte) :
    admission (.openCh bus cs) s = some .alreadyOpen := by
  simp [admission, isBusy, hn, ho]

theorem admission_unusable (ho : s.isOpen = true) (hu : s.unusable = true) (hc : ∀ bus cs, c ≠ .openCh bus cs)
    (hclose : c ≠ .closeCh) : admission c s = some .unusable := by
  cases c with
  | openCh bus cs => exact absurd rfl (hc bus cs)
  | closeCh => exact absurd rfl hclose
  | _ => simp [admission, isBusy, hn, ho, hu]

end Admission

theorem refuse_onlyRefused (r : RefuseReason) (s : State) : OnlyRefused r s (refuse r s) :=
  ⟨rfl, rfl, ⟨⟨rfl, rfl, rfl⟩, rfl, rfl, rfl⟩, ⟨rfl, rfl⟩, rfl, rfl, rfl, rfl, rfl, rfl, rfl⟩

/-- A command the admission does not let through is refused and does nothing else (R137). -/
theorem exec_notAdmitted {c : Instr} {r : RefuseReason} (format : c.format = .cmd) (h : admission c s = some r) :
    ∃ t, exec c s = .next t ∧ OnlyRefused r s t ∧ t.presented = s.presented :=
  ⟨_, (exec_command format s).trans (command_refused h), refuse_onlyRefused r s, rfl⟩

/-- Settles O33: each hypothesis is that of one check, with the checks before it passed. -/
theorem admissionRefusals : Obligations.AdmissionRefusals := by
  intro s c format
  refine ⟨fun busy => ?_, fun hn ho hc => ?_, fun hn ho hc => ?_, fun hn ho hu hc hclose => ?_⟩
  · exact exec_notAdmitted format (admission_busy busy c)
  · exact exec_notAdmitted format (admission_notOpen hn ho hc)
  · obtain ⟨bus, cs, rfl⟩ := hc
    exact exec_notAdmitted format (admission_alreadyOpen hn ho bus cs)
  · exact exec_notAdmitted format (admission_unusable hn ho hu hc hclose)

/-! ### The start of an access -/

/-- The commands with a transport call in their stage `S_RUN` are the four register accesses and `RDSAMPLE` (R83 to R86, R117). -/
def IsAccess (c : Instr) : Prop := ∃ p, inFlight c .run = some p

theorem IsAccess.notOpen {c : Instr} (h : IsAccess c) (bus cs : Byte) : c ≠ .openCh bus cs := by
  rintro rfl
  obtain ⟨p, ⟨⟩⟩ := h

theorem IsAccess.notInit {c : Instr} (h : IsAccess c) : c ≠ .init := by
  rintro rfl
  obtain ⟨p, ⟨⟩⟩ := h

theorem IsAccess.begin_notInit {c : Instr} (h : IsAccess c) : (begin c s).cmd ≠ some .init :=
  fun hi => h.notInit (Option.some.inj hi)

theorem IsAccess.format {c : Instr} (h : IsAccess c) : c.format = .cmd := by
  obtain ⟨p, h⟩ := h
  cases c with
  | rdf addr => cases h
  | wrf addr v => cases h
  | _ => rfl

theorem rdreg_isAccess (a : Byte) : IsAccess (.rdreg a) := ⟨_, rfl⟩
theorem wrreg_isAccess (a v : Byte) : IsAccess (.wrreg a v) := ⟨_, rfl⟩
theorem rdregs_isAccess (addrs : List Byte) : IsAccess (.rdregs addrs) := ⟨_, rfl⟩
theorem wrregs_isAccess (pairs : List (Byte × Byte)) : IsAccess (.wrregs pairs) := ⟨_, rfl⟩
theorem rdsample_isAccess : IsAccess .rdsample := ⟨_, rfl⟩

/-- An admitted access runs from its start. -/
theorem IsAccess.exec {c : Instr} (h : IsAccess c) (hs : Ready s) : exec c s = .next (run (startOf c (begin c s))) :=
  (exec_command h.format s).trans (command_admitted (admission_ready hs h.notOpen))

theorem run_noCall (h : s.call = none) : run s = s := drain_noCall h s.replies

/-- An access that raises an error at its start has ended without a transport call (R91). -/
theorem access_violates {c : Instr} {e : ErrorRec} (hc : IsAccess c) (hs : Ready s)
    (h : startOf c (begin c s) = raiseAccess e (begin c s)) :
    ∃ t, exec c s = .next t ∧ Ends s t (.err e) [] s.replies ∧ SameHandle s t := by
  refine ⟨_, hc.exec hs, ?_⟩
  rw [h, run_noCall rfl]
  exact ends_ofBegin
    ⟨raiseAccess_ends (List.append_nil _).symm (.refl _), raiseAccess_sameHandle (.refl _) hc.begin_notInit _ _⟩

theorem startRdreg_illegal {a : Byte} (h : isIllegalAddr a = true) (s : State) :
    startRdreg a s = raiseAccess (.callerContractViolation 0 a) s := if_pos h

theorem startWrreg_illegal {a : Byte} (h : isIllegalAddr a = true) (v : Byte) (s : State) :
    startWrreg a v s = raiseAccess (.callerContractViolation 0 a) s := if_pos h

theorem startBatchRead_illegal {addrs : List Byte} {i : Nat} {a : Byte} (h : firstIllegal 0 addrs = some (i, a)) (s : State) :
    startBatchRead addrs s = raiseAccess (.callerContractViolation i a) s := by
  simp only [startBatchRead, h]

theorem startBatchWrite_illegal {pairs : List (Byte × Byte)} {i : Nat} {a : Byte}
    (h : firstIllegal 0 (pairs.map Prod.fst) = some (i, a)) (s : State) :
    startBatchWrite pairs s = raiseAccess (.callerContractViolation i a) s := by
  simp only [startBatchWrite, h]

/-- The first bad address of a batch is reported at its position (R91, R92). -/
theorem firstIllegal_behind {before after : List Byte} {a : Byte} (hb : ∀ b ∈ before, b.getLsbD 7 = false)
    (ha : a.getLsbD 7 = true) : firstIllegal 0 (before ++ a :: after) = some (before.length, a) := by
  have legal : ∀ b ∈ before, isIllegalAddr b = false := fun b h => (isIllegalAddr_eq b).trans (hb b h)
  rw [firstIllegal_append legal ((isIllegalAddr_eq a).trans ha), Nat.zero_add]

/-- Settles O23: the start of each access raises the violation, at the first operand the check does not pass. -/
theorem illegalAddressIsAContractViolation : Obligations.IllegalAddressIsAContractViolation := by
  intro s hs
  refine ⟨fun a ha => ?rdreg, fun a v ha => ?wrreg, fun before after a hb ha => ?rdregs, fun before after a v hb ha => ?wrregs⟩
  case rdreg => exact access_violates (rdreg_isAccess a) hs (startRdreg_illegal ((isIllegalAddr_eq a).trans ha) _)
  case wrreg => exact access_violates (wrreg_isAccess a v) hs (startWrreg_illegal ((isIllegalAddr_eq a).trans ha) v _)
  case rdregs => exact access_violates (rdregs_isAccess _) hs (startBatchRead_illegal (firstIllegal_behind hb ha) _)
  case wrregs =>
    have first : firstIllegal 0 ((before ++ (a, v) :: after).map Prod.fst) = some (before.length, a) := by
      rw [List.map_append, List.map_cons, firstIllegal_behind (List.forall_mem_map.mpr hb) ha, List.length_map]
    exact access_violates (wrregs_isAccess _) hs (startBatchWrite_illegal first _)

/-! ### A single access that is answered -/

/-- Settles O16: the response carries the handshake. -/
theorem rdregReturnsTheResponseByte : Obligations.RdregReturnsTheResponseByte := by
  intro s a v rest hs ha hr
  have read := rdreg_answered hs ha hr
  rwa [if_pos (show (⟨0xFF#8, v⟩ : Frame).b0 = handshake from rfl)] at read

/-- Settles O17: both bytes of the response are the handshake. -/
theorem wrregReturnsItsOperand : Obligations.WrregReturnsItsOperand := by
  intro s a v rest hs ha hr
  have write := wrreg_answered hs ha v hr
  have good : ¬(0xFF#8 : Byte) ≠ handshake := not_not.mpr rfl
  rwa [if_neg good, if_neg good] at write

/-- A single access whose answer is no frame ends with `TransportError` (R39, R90). -/
theorem single_fails {c : Instr} {f : Frame} {a : Answer} {rest : List Reply} (hc : IsAccess c) (hs : Ready s)
    (hst : startOf c (begin c s) = issueXfer f (begin c s)) (hr : s.replies = .answer a :: rest) (ha : answerOne a = none) :
    ∃ t, exec c s = .next t ∧ Ends s t (.err (.transportError .transfer)) [.xfer f none] rest ∧ SameHandle s t := by
  refine ⟨_, (exec_command hc.format s).trans (command_xfer (admission_ready hs hc.notOpen) hst hr), ?_⟩
  rw [returned_xfer_fail (issueXfer_outbuf f _) ha, drain_noCall rfl]
  exact ends_ofBegin ((exchanged f none (begin c s)).receiveNothing.raises hc.begin_notInit)

/-! ### A batch that is answered -/

/-- `s` when the frames `outs`, issued as its batch, have come back with `ans`. -/
def batchExchange (outs : List Frame) (ans : Option (List Frame)) (s : State) : State :=
  record (.xferBatch outs ans) (endCall (issueBatch outs s))

theorem batchExchanged (outs : List Frame) (ans : Option (List Frame)) (s : State) :
    Exchanged s (batchExchange outs ans s) [.xferBatch outs ans] :=
  ⟨rfl, rfl, rfl, rfl, ⟨⟨rfl, rfl, rfl⟩, rfl, rfl, rfl⟩, ⟨rfl, rfl, rfl⟩⟩

/-- The end of an access with an outcome: `return v` or `raise e` (R80). -/
def endAccess : Result → State → State
  | .ok v => returnValue v
  | .err e => raiseAccess e

theorem endAccess_call (r : Result) (s : State) : (endAccess r s).call = none := by
  cases r <;> rfl

theorem Exchanged.endsAccess {r : Result} {events : List Event} {rest : List Reply} (h : Exchanged s u events)
    (hc : s.cmd ≠ some .init) :
    Ends s (setReplies rest (endAccess r u)) r events rest ∧ SameHandle s (setReplies rest (endAccess r u)) := by
  cases r with
  | ok v => exact h.returns v
  | err e => exact h.raises hc

/-- The outcome of a batch whose validation gives `v` (R85, R86). -/
def outcomeOf {α : Type} (value : α → Value) (v : Except ErrorRec α) : Result :=
  match v with
  | .ok x => .ok (value x)
  | .error e => .err e

theorem rdregsReturned_eq (ins : List Frame) (s : State) :
    rdregsReturned ins s = endAccess (outcomeOf .bytes (validateRead ins)) (receive readOk ins s) := by
  unfold rdregsReturned
  cases validateRead ins <;> rfl

theorem wrregsReturned_eq (ins : List Frame) (s : State) :
    wrregsReturned ins s =
      endAccess (outcomeOf (fun _ => .unit) (validateWrite true ins)) (receive (writeOk true) ins s) := by
  unfold wrregsReturned wbCheckByte1
  cases validateWrite true ins <;> rfl

/-- The value of the bytes `RDSAMPLE` has read: their sample, which five bytes always have (R68). -/
def sampleValue (vals : List Byte) : Value := (sampleOf vals).elim .unit .sample

theorem rdsampleReturned_eq {ins : List Frame} (h : ins.length = 5) (s : State) :
    rdsampleReturned ins s = endAccess (outcomeOf sampleValue (validateRead ins)) (receive readOk ins s) := by
  unfold rdsampleReturned
  cases hv : validateRead ins with
  | error e => rfl
  | ok vals =>
    obtain ⟨m, hm⟩ := sampleOf_five ((validateReadFrom_length hv).trans h)
    simp only [outcomeOf, sampleValue, hm]
    rfl

section Batch

variable {c : Instr} {outs : List Frame} {rest : List Reply} (hc : IsAccess c) (hs : Ready s)
  (hst : startOf c (begin c s) = issueBatch outs (begin c s))

include hc hs hst

/-- A batch whose answer is not its number of frames ends with `TransportError` (R39, R90). -/
theorem batch_fails {a : Answer} (hr : s.replies = .answer a :: rest) (ha : answerMany outs.length a = none) :
    ∃ t, exec c s = .next t ∧ Ends s t (.err (.transportError .transferBatch)) [.xferBatch outs none] rest ∧
      SameHandle s t := by
  refine ⟨_, (exec_command hc.format s).trans (command_batch (admission_ready hs hc.notOpen) hst hr), ?_⟩
  rw [returned_batch_fail ha, drain_noCall rfl]
  exact ends_ofBegin ((batchExchanged outs none (begin c s)).receiveNothing.raises hc.begin_notInit)

/-- A batch whose frames all came back ends with the outcome of their validation. -/
theorem batch_answered {ins : List Frame} {r : Result} {good : Frame → Bool} (hl : ins.length = outs.length)
    (hr : s.replies = .answer (.ok ins) :: rest)
    (delivered : ∀ u : State, u.cmd = some c → batchDelivered ins u = endAccess r (receive good ins u)) :
    ∃ t, exec c s = .next t ∧ Ends s t r [.xferBatch outs (some ins)] rest ∧ SameHandle s t := by
  refine ⟨_, (exec_command hc.format s).trans (command_batch (admission_ready hs hc.notOpen) hst hr), ?_⟩
  rw [returned_batch_ok hl, delivered _ rfl, drain_noCall (endAccess_call r _)]
  exact ends_ofBegin (((batchExchanged outs (some ins) (begin c s)).receive good ins).endsAccess hc.begin_notInit)

end Batch

section Answered

variable {ins : List Frame} {rest : List Reply} (hs : Ready s) (hr : s.replies = .answer (.ok ins) :: rest)

include hs hr

theorem rdregs_answered {addrs : List Byte} (h : ∀ a ∈ addrs, a.getLsbD 7 = false) (hl : ins.length = addrs.length) :
    ∃ t, exec (.rdregs addrs) s = .next t ∧
      Ends s t (outcomeOf .bytes (validateRead ins)) [.xferBatch (readFrames addrs) (some ins)] rest ∧ SameHandle s t :=
  batch_answered (rdregs_isAccess addrs) hs (startRdregs_legal h _) (hl.trans (readFrames_length addrs).symm) hr
    fun u hc => (batchDelivered_rdregs hc ins).trans (rdregsReturned_eq ins u)

theorem wrregs_answered {pairs : List (Byte × Byte)} (h : ∀ p ∈ pairs, p.1.getLsbD 7 = false)
    (hl : ins.length = pairs.length) :
    ∃ t, exec (.wrregs pairs) s = .next t ∧
      Ends s t (outcomeOf (fun _ => .unit) (validateWrite true ins)) [.xferBatch (writeFrames pairs) (some ins)] rest ∧
      SameHandle s t :=
  batch_answered (wrregs_isAccess pairs) hs (startWrregs_legal h _) (hl.trans (writeFrames_length pairs).symm) hr
    fun u hc => (batchDelivered_wrregs hc ins).trans (wrregsReturned_eq ins u)

theorem rdsample_answered (hl : ins.length = 5) :
    ∃ t, exec .rdsample s = .next t ∧
      Ends s t (outcomeOf sampleValue (validateRead ins)) [.xferBatch (readFrames motionRegs) (some ins)] rest ∧
      SameHandle s t :=
  batch_answered rdsample_isAccess hs rfl hl hr
    fun u hc => (batchDelivered_rdsample hc ins).trans (rdsampleReturned_eq hl u)

end Answered

/-- Settles O18: the response frames are good, so their validation returns their bytes. -/
theorem rdregsReturnsTheResponseBytes : Obligations.RdregsReturnsTheResponseBytes := by
  intro s addrs vals rest hs ha hl hr
  have read := rdregs_answered hs hr ha (by rw [List.length_map, hl])
  have valid : validateRead (goodReads vals) = .ok vals := validateReadFrom_goodReads 0 vals
  rwa [show (vals.map fun v => (⟨0xFF#8, v⟩ : Frame)) = goodReads vals from rfl, valid] at read

/-- Settles O19: every response frame passes both checks. -/
theorem wrregsReturnsNoValue : Obligations.WrregsReturnsNoValue := by
  intro s pairs rest hs hp hr
  have write := wrregs_answered hs hr hp List.length_replicate
  rwa [validateWrite_good (writeOk_both fun f hf => List.eq_of_mem_replicate hf)] at write

/-- Settles O21: the first bad frame decides the outcome of the whole batch. -/
theorem batchHandshakeFailure : Obligations.BatchHandshakeFailure := by
  intro s good more bad rest hs hr
  refine ⟨fun addrs ha hl pass hb => ?rdregs, fun pairs hp hl pass => ⟨fun hb => ?byte0, fun hb0 hb1 => ?byte1⟩,
    fun hl pass hb => ?rdsample⟩
  case rdregs =>
    have read := rdregs_answered hs hr ha hl.symm
    rwa [validateRead_firstBad pass hb] at read
  case byte0 =>
    have write := wrregs_answered hs hr hp hl.symm
    rwa [validateWrite_firstBad0 (writeOk_both pass) hb] at write
  case byte1 =>
    have write := wrregs_answered hs hr hp hl.symm
    rwa [validateWrite_firstBad1 (writeOk_both pass) hb0 hb1] at write
  case rdsample =>
    have read := rdsample_answered hs hr hl
    rwa [validateRead_firstBad pass hb] at read

/-- Settles O22: a failed call answers neither a single transfer nor a batch with frames. -/
theorem transportFailureEndsAnAccess : Obligations.TransportFailureEndsAnAccess := by
  intro s rest hs hr
  refine ⟨fun a ha => ?rdreg, fun a v ha => ?wrreg, fun addrs ha => ?rdregs, fun pairs hp => ?wrregs, ?rdsample⟩
  case rdreg => exact single_fails (rdreg_isAccess a) hs (startRdreg_legal ha _) hr rfl
  case wrreg => exact single_fails (wrreg_isAccess a v) hs (startWrreg_legal ha v _) hr rfl
  case rdregs => exact batch_fails (rdregs_isAccess addrs) hs (startRdregs_legal ha _) hr rfl
  case wrregs => exact batch_fails (wrregs_isAccess pairs) hs (startWrregs_legal hp _) hr rfl
  case rdsample => exact batch_fails rdsample_isAccess hs rfl hr rfl

end Sys2Proof.Proofs
end

section
/-! PROOFS. What the accesses and `SETDBG` leave unchanged (spec/10_state.md R41, spec/40_register_protocol.md R99,
spec/41_device_controller.md R118 to R120), in every phase and whatever the transport answers. -/

namespace Sys2Proof.Proofs

open Sys2Proof.Machine

variable {s t : State}

/-- The handle and the byte strings presented in `t` are those of `s`. -/
def KeepsHandle (s t : State) : Prop := SameHandle s t ∧ t.presented = s.presented

theorem keepsHandle_refuse (r : RefuseReason) (s : State) : KeepsHandle s (refuse r s) :=
  ⟨(refuse_onlyRefused r s).handle, rfl⟩

/-- `c` keeps the handle, if it has a next state. -/
def ExecKeepsHandle (c : Instr) (s : State) : Prop := ∀ t, exec c s = .next t → KeepsHandle s t

/-- An instruction has one outcome, so an end that is known is the next state. -/
theorem execKeepsHandle_of_ends {c : Instr} {r : Result} {events : List Event} {rest : List Reply}
    (h : ∃ t, exec c s = .next t ∧ Ends s t r events rest ∧ SameHandle s t) : ExecKeepsHandle c s := by
  intro t ht
  obtain ⟨u, hu, ends, handle⟩ := h
  obtain rfl : u = t := Host.Outcome.next.inj (hu.symm.trans ht)
  exact ⟨handle, ends.caller.presented⟩

/-- A command that is not admitted is refused; one that is has an open, usable handle and no command before it. -/
theorem access_keeps_of_ready {c : Instr} (hc : IsAccess c) (h : Ready s → ExecKeepsHandle c s) : ExecKeepsHandle c s := by
  cases ha : admission c s with
  | some r =>
    intro t ht
    obtain rfl := Host.Outcome.next.inj (((exec_command hc.format s).trans (command_refused ha)).symm.trans ht)
    exact keepsHandle_refuse r s
  | none =>
    refine h ⟨admitted_isOpen ha hc.notOpen, admitted_usable ha ?_, admitted_noCommand ha⟩
    rintro rfl
    obtain ⟨p, ⟨⟩⟩ := hc

/-- An access that has issued its call waits in it with the handle as it was, or is answered. -/
theorem access_keeps_of_answered {c : Instr} {p : Pending} {outs : List Frame} (hc : IsAccess c) (hs : Ready s)
    (hst : startOf c (begin c s) = issue p { begin c s with outbuf := outs })
    (h : ∀ a rest, s.replies = .answer a :: rest → ExecKeepsHandle c s) : ExecKeepsHandle c s := by
  have waits (hu : Unanswered s) : ExecKeepsHandle c s := by
    intro t ht
    have waiting := (exec_command hc.format s).trans (command_waits hu (admission_ready hs hc.notOpen) hst rfl)
    obtain rfl := Host.Outcome.next.inj (waiting.symm.trans ht)
    exact ⟨⟨⟨rfl, rfl, rfl⟩, rfl, rfl, rfl⟩, rfl⟩
  cases hr : s.replies with
  | nil => exact waits (.inl hr)
  | cons reply rest =>
    cases reply with
    | pending => exact waits (.inr ⟨rest, hr⟩)
    | answer a => exact h a rest hr

theorem answerOne_some {a : Answer} {r : Frame} (h : answerOne a = some r) : a = .ok [r] := by
  unfold answerOne at h
  split at h
  · cases h; rfl
  · cases h

theorem answerMany_some {n : Nat} {a : Answer} {ins : List Frame} (h : answerMany n a = some ins) : a = .ok ins := by
  cases a with
  | fail => cases h
  | ok fs =>
    simp only [answerMany, Option.ite_none_right_eq_some, Option.some.injEq] at h
    rw [h.2]

/-- A single access keeps the handle if it does with each response frame. -/
theorem single_keeps {c : Instr} {f : Frame} (hc : IsAccess c) (hs : Ready s)
    (hst : startOf c (begin c s) = issueXfer f (begin c s))
    (h : ∀ r rest, s.replies = .answer (.ok [r]) :: rest → ExecKeepsHandle c s) : ExecKeepsHandle c s := by
  refine access_keeps_of_answered hc hs hst fun a rest hr => ?_
  cases ha : answerOne a with
  | none => exact execKeepsHandle_of_ends (single_fails hc hs hst hr ha)
  | some r => exact h r rest (by rw [hr, answerOne_some ha])

/-- A batch keeps the handle if it does with each list of as many response frames. -/
theorem batch_keeps {c : Instr} {outs : List Frame} (hc : IsAccess c) (hs : Ready s)
    (hst : startOf c (begin c s) = issueBatch outs (begin c s))
    (h : ∀ ins rest, ins.length = outs.length → s.replies = .answer (.ok ins) :: rest → ExecKeepsHandle c s) :
    ExecKeepsHandle c s := by
  refine access_keeps_of_answered hc hs hst fun a rest hr => ?_
  cases ha : answerMany outs.length a with
  | none => exact execKeepsHandle_of_ends (batch_fails hc hs hst hr ha)
  | some ins => exact h ins rest (answerMany_length ha) (by rw [hr, answerMany_some ha])

theorem rdreg_keeps (hs : Ready s) (a : Byte) : ExecKeepsHandle (.rdreg a) s := by
  have hc := rdreg_isAccess a
  cases ha : a.getLsbD 7 with
  | true => exact execKeepsHandle_of_ends (access_violates hc hs (startRdreg_illegal ((isIllegalAddr_eq a).trans ha) _))
  | false =>
    exact single_keeps hc hs (startRdreg_legal ha _) fun r rest hr => execKeepsHandle_of_ends (rdreg_answered hs ha hr)

theorem wrreg_keeps (hs : Ready s) (a v : Byte) : ExecKeepsHandle (.wrreg a v) s := by
  have hc := wrreg_isAccess a v
  cases ha : a.getLsbD 7 with
  | true => exact execKeepsHandle_of_ends (access_violates hc hs (startWrreg_illegal ((isIllegalAddr_eq a).trans ha) v _))
  | false =>
    exact single_keeps hc hs (startWrreg_legal ha v _) fun r rest hr => execKeepsHandle_of_ends (wrreg_answered hs ha v hr)

/-- The contract check passes exactly the lists of register addresses (R48). -/
theorem getLsbD_of_firstIllegal {addrs : List Byte} (h : firstIllegal 0 addrs = none) : ∀ a ∈ addrs, a.getLsbD 7 = false :=
  fun a ha => (isIllegalAddr_eq a).symm.trans (legal_of_firstIllegal h a ha)

theorem rdregs_keeps (hs : Ready s) (addrs : List Byte) : ExecKeepsHandle (.rdregs addrs) s := by
  have hc := rdregs_isAccess addrs
  cases hf : firstIllegal 0 addrs with
  | some bad => exact execKeepsHandle_of_ends (access_violates hc hs (startBatchRead_illegal hf _))
  | none =>
    have legal := getLsbD_of_firstIllegal hf
    refine batch_keeps hc hs (startRdregs_legal legal _) fun ins rest hl hr => ?_
    exact execKeepsHandle_of_ends (rdregs_answered hs hr legal (hl.trans (readFrames_length addrs)))

theorem wrregs_keeps (hs : Ready s) (pairs : List (Byte × Byte)) : ExecKeepsHandle (.wrregs pairs) s := by
  have hc := wrregs_isAccess pairs
  cases hf : firstIllegal 0 (pairs.map Prod.fst) with
  | some bad => exact execKeepsHandle_of_ends (access_violates hc hs (startBatchWrite_illegal hf _))
  | none =>
    have legal := List.forall_mem_map.mp (getLsbD_of_firstIllegal hf)
    refine batch_keeps hc hs (startWrregs_legal legal _) fun ins rest hl hr => ?_
    exact execKeepsHandle_of_ends (wrregs_answered hs hr legal (hl.trans (writeFrames_length pairs)))

theorem rdsample_keeps (hs : Ready s) : ExecKeepsHandle .rdsample s :=
  batch_keeps rdsample_isAccess hs rfl fun _ _ hl hr => execKeepsHandle_of_ends (rdsample_answered hs hr hl)

/-- `SETDBG` is refused by the admission, refused by its own check, or writes the flag and ends (R76, R104). -/
theorem setdbg_cases {d : Byte} (h : exec (.setdbg d) s = .next t) :
    (∃ r, t = refuse r s) ∨ t = refuseAdmitted .reservedOperand (begin (.setdbg d) s) ∨
      t = finish (.ok .unit) (setDebug (d.getLsbD 0) (begin (.setdbg d) s)) := by
  obtain ⟨r, -, rfl⟩ | ⟨-, rfl⟩ := command_cases (show command (.setdbg d) (startSetdbg d) s = .next t from h)
  · exact .inl ⟨r, rfl⟩
  · unfold startSetdbg
    split <;> rw [run_noCall rfl]
    · exact .inr (.inl rfl)
    · exact .inr (.inr rfl)

/-- Settles O25: each access keeps the handle where it is admitted, and `SETDBG` writes no field named here in any case. -/
theorem accessesKeepTheHandle : Obligations.AccessesKeepTheHandle := by
  intro s t _
  refine ⟨fun c hc h => ?access, fun d h => ?setdbg⟩
  case access =>
    obtain ⟨a, rfl⟩ | ⟨a, v, rfl⟩ | ⟨addrs, rfl⟩ | ⟨pairs, rfl⟩ | rfl := hc
    · exact access_keeps_of_ready (rdreg_isAccess a) (rdreg_keeps · a) t h
    · exact access_keeps_of_ready (wrreg_isAccess a v) (wrreg_keeps · a v) t h
    · exact access_keeps_of_ready (rdregs_isAccess addrs) (rdregs_keeps · addrs) t h
    · exact access_keeps_of_ready (wrregs_isAccess pairs) (wrregs_keeps · pairs) t h
    · exact access_keeps_of_ready rdsample_isAccess rdsample_keeps t h
  case setdbg =>
    obtain ⟨r, rfl⟩ | rfl | rfl := setdbg_cases h
    · exact ⟨⟨rfl, rfl, rfl⟩, rfl, rfl, rfl, ⟨rfl, rfl⟩, rfl, rfl⟩
    · exact ⟨⟨rfl, rfl, rfl⟩, rfl, rfl, rfl, ⟨rfl, rfl⟩, rfl, rfl⟩
    · exact ⟨⟨rfl, rfl, rfl⟩, rfl, rfl, rfl, ⟨rfl, rfl⟩, rfl, rfl⟩

end Sys2Proof.Proofs
end

section
/-! PROOFS. A batch is its single accesses in order, merged into one transport call (spec/40_register_protocol.md R87): the same
frames are sent, and the validation of the batch reports what the first single access that fails does. -/

namespace Sys2Proof.Proofs

open Sys2Proof.Machine

variable {s t : State}

/-! ### Single accesses in a row -/

/-- With any response frame, `c` sends `f` and ends with the outcome `result` of that frame. -/
def AnsweredBy (c : Instr) (f : Frame) (result : Frame → Result) : Prop :=
  ∀ {s : State} {r : Frame} {rest : List Reply}, Ready s → s.replies = .answer (.ok [r]) :: rest →
    ∃ t, exec c s = .next t ∧ Ends s t (result r) [.xfer f (some r)] rest ∧ SameHandle s t

/-- The outcome of `RDREG` with the response `r` (R83). -/
def readResult (r : Frame) : Result :=
  if r.b0 = handshake then .ok (.byte r.b1) else .err (.unexpectedHandshake 0 0 r.b0)

/-- The outcome of `WRREG` of the value `v` with the response `r` (R84). -/
def writeResult (v : Byte) (r : Frame) : Result :=
  if r.b0 ≠ handshake then .err (.unexpectedHandshake 0 0 r.b0)
  else if r.b1 ≠ handshake then .err (.unexpectedHandshake 0 1 r.b1) else .ok (.byte v)

theorem rdreg_answeredBy {a : Byte} (h : a.getLsbD 7 = false) : AnsweredBy (.rdreg a) (readFrame a) readResult :=
  fun hs hr => rdreg_answered hs h hr

theorem wrreg_answeredBy {a : Byte} (h : a.getLsbD 7 = false) (v : Byte) :
    AnsweredBy (.wrreg a v) (writeFrame a v) (writeResult v) :=
  fun hs hr => wrreg_answered hs h v hr

theorem execAll_cons {c : Instr} (h : exec c s = .next t) (cs : List Instr) : execAll (c :: cs) s = execAll cs t := by
  rw [execAll, h]

theorem resultsOf_cons {c : Instr} (h : exec c s = .next t) (cs : List Instr) :
    resultsOf (c :: cs) s = t.res :: resultsOf cs t := by
  rw [resultsOf, h]

/-- Single accesses send their frames in order, each with the outcome of its own response. -/
theorem execAll_singles {α : Type} {cmd : α → Instr} {frame : α → Frame} {result : α → Frame → Result} {xs : List α}
    {ins : List Frame} {rest : List Reply} (h : ∀ x ∈ xs, AnsweredBy (cmd x) (frame x) (result x))
    (hl : ins.length = xs.length) (hs : Ready s) (hr : s.replies = (ins.map fun r => .answer (.ok [r])) ++ rest) :
    ∃ t, execAll (xs.map cmd) s = .next t ∧ framesSent t.hist = framesSent s.hist ++ xs.map frame ∧
      resultsOf (xs.map cmd) s = List.zipWith (fun x r => some (result x r)) xs ins := by
  induction xs generalizing s ins with
  | nil => exact ⟨s, rfl, (List.append_nil _).symm, rfl⟩
  | cons x xs ih =>
    obtain ⟨r, ins, rfl⟩ := List.exists_cons_of_length_eq_add_one hl
    obtain ⟨hx, hxs⟩ := List.forall_mem_cons.mp h
    obtain ⟨u, hu, ends, handle⟩ := hx hs hr
    obtain ⟨t, ht, sent, results⟩ := ih hxs (Nat.succ.inj hl) (ready_afterEnds hs ends handle) ends.replies
    refine ⟨t, (execAll_cons hu _).trans ht, ?_, ?_⟩
    · rw [sent, ends.hist, framesSent_append, List.append_assoc]
      rfl
    · rw [List.map_cons, resultsOf_cons hu, ends.res, results]
      rfl

/-! ### The first single access that fails -/

/-- In a row of outcomes the access at `k` is the first to fail, at byte `b` of its response, and those before it return a
byte. -/
def FailsFirstAt (results : List (Option Result)) (k : Nat) (b : Fin 2) (got : Byte) : Prop :=
  results[k]? = some (some (.err (.unexpectedHandshake 0 b got))) ∧
    ∀ j < k, ∃ v, results[j]? = some (some (.ok (.byte v)))

section FailsFirstAt

variable {r : Option Result} {results : List (Option Result)} {k : Nat} {b : Fin 2} {got : Byte}

theorem not_failsFirstAt_nil : ¬ FailsFirstAt [] k b got := fun ⟨h, _⟩ => by cases h

theorem failsFirstAt_zero :
    FailsFirstAt (r :: results) 0 b got ↔ r = some (.err (.unexpectedHandshake 0 b got)) := by
  simp [FailsFirstAt]

theorem failsFirstAt_succ :
    FailsFirstAt (r :: results) (k + 1) b got ↔ (∃ v, r = some (.ok (.byte v))) ∧ FailsFirstAt results k b got := by
  simp only [FailsFirstAt, List.getElem?_cons_succ]
  refine ⟨fun ⟨at_k, before⟩ => ⟨?_, at_k, fun j hj => ?_⟩, fun ⟨⟨v, hv⟩, at_k, before⟩ => ⟨at_k, fun j hj => ?_⟩⟩
  · simpa using before 0 (Nat.succ_pos k)
  · simpa using before (j + 1) (Nat.succ_lt_succ hj)
  · cases j with
    | zero => exact ⟨v, congrArg some hv⟩
    | succ j => simpa using before j (Nat.lt_of_succ_lt_succ hj)

/-- After an access that returns a byte the first failure is that of the rest. -/
theorem failsFirstAt_afterByte {v : Byte} :
    FailsFirstAt (some (.ok (.byte v)) :: results) k b got ↔ ∃ j, k = j + 1 ∧ FailsFirstAt results j b got := by
  cases k with
  | zero => simp [failsFirstAt_zero]
  | succ k => simp [failsFirstAt_succ]

/-- An access that fails is the first to fail. -/
theorem failsFirstAt_atFailure {b' : Fin 2} {got' : Byte} :
    FailsFirstAt (some (.err (.unexpectedHandshake 0 b' got')) :: results) k b got ↔ k = 0 ∧ b' = b ∧ got' = got := by
  cases k with
  | zero => simp [failsFirstAt_zero]
  | succ k => simp [failsFirstAt_succ]

/-- As `FailsFirstAt`, with the accesses counted from `n` as a validation loop counts its frames (R24). -/
def FailsFrom (n : Nat) (results : List (Option Result)) (m : Nat) (b : Fin 2) (got : Byte) : Prop :=
  ∃ k, m = n + k ∧ FailsFirstAt results k b got

variable {n m : Nat}

theorem failsFrom_zero : FailsFrom 0 results m b got ↔ FailsFirstAt results m b got := by
  simp [FailsFrom]

theorem not_failsFrom_nil : ¬ FailsFrom n [] m b got := fun ⟨_, _, h⟩ => not_failsFirstAt_nil h

/-- After an access that returns a byte the first failure is that of the rest. -/
theorem failsFrom_byte {v : Byte} :
    FailsFrom n (some (.ok (.byte v)) :: results) m b got ↔ FailsFrom (n + 1) results m b got := by
  refine ⟨fun ⟨k, hm, hk⟩ => ?_, fun ⟨k, hm, hk⟩ => ⟨k + 1, by omega, failsFirstAt_succ.mpr ⟨⟨v, rfl⟩, hk⟩⟩⟩
  cases k with
  | zero => cases failsFirstAt_zero.mp hk
  | succ k => exact ⟨k, by omega, (failsFirstAt_succ.mp hk).2⟩

/-- An access that fails is the first to fail. -/
theorem failsFrom_failure {b' : Fin 2} {got' : Byte} :
    FailsFrom n (some (.err (.unexpectedHandshake 0 b' got')) :: results) m b got ↔ n = m ∧ b' = b ∧ got' = got := by
  refine ⟨fun ⟨k, hm, hk⟩ => ?_, ?_⟩
  · cases k with
    | zero => cases failsFirstAt_zero.mp hk; exact ⟨hm.symm, rfl, rfl⟩
    | succ k => obtain ⟨⟨v, ⟨⟩⟩, -⟩ := failsFirstAt_succ.mp hk
  · rintro ⟨rfl, rfl, rfl⟩
    exact ⟨0, rfl, failsFirstAt_zero.mpr rfl⟩

end FailsFirstAt

/-! ### The validation of a batch and the outcomes of its single accesses -/

theorem readResult_ok {r : Frame} (h : r.b0 = handshake) : readResult r = .ok (.byte r.b1) := if_pos h

theorem readResult_bad {r : Frame} (h : r.b0 ≠ handshake) : readResult r = .err (.unexpectedHandshake 0 0 r.b0) := if_neg h

/-- A batched read reports the failure of the first single read that fails, at its index (R94). -/
theorem validateReadFrom_fails_iff {ins : List Frame} {n m : Nat} {got : Byte} :
    validateReadFrom n ins = .error (.unexpectedHandshake m 0 got) ↔
      FailsFrom n (ins.map fun r => some (readResult r)) m 0 got := by
  induction ins generalizing n with
  | nil => simp [validateReadFrom, not_failsFrom_nil]
  | cons r ins ih =>
    by_cases hr : r.b0 = handshake
    · rw [validateReadFrom_cons_ok hr, List.map_cons, readResult_ok hr, failsFrom_byte, ← ih]
      cases validateReadFrom (n + 1) ins <;> simp [Except.map]
    · simp [validateReadFrom_cons_bad hr, readResult_bad hr, failsFrom_failure]

/-- A batched read passes with the bytes the single reads return (R81). -/
theorem validateReadFrom_passes_iff {ins : List Frame} {n : Nat} {vals : List Byte} :
    validateReadFrom n ins = .ok vals ↔
      (ins.map fun r => some (readResult r)) = vals.map fun v => some (.ok (.byte v)) := by
  induction ins generalizing n vals with
  | nil => cases vals <;> simp [validateReadFrom]
  | cons r ins ih =>
    by_cases hr : r.b0 = handshake
    · rw [validateReadFrom_cons_ok hr, List.map_cons, readResult_ok hr]
      cases vals with
      | nil => cases validateReadFrom (n + 1) ins <;> simp [Except.map]
      | cons v vals =>
        rw [List.map_cons, List.cons.injEq, ← ih (n := n + 1)]
        cases validateReadFrom (n + 1) ins <;> simp [Except.map]
    · rw [validateReadFrom_cons_bad hr, List.map_cons, readResult_bad hr]
      cases vals <;> simp

/-- The outcomes of single writes of `pairs` with these responses. -/
def writeResults (pairs : List (Byte × Byte)) (ins : List Frame) : List (Option Result) :=
  List.zipWith (fun p r => some (writeResult p.2 r)) pairs ins

theorem writeResult_ok {r : Frame} (h : writeOk true r = true) (v : Byte) : writeResult v r = .ok (.byte v) := by
  obtain ⟨h0, h1⟩ : r.b0 = handshake ∧ r.b1 = handshake := by simpa [writeOk] using h
  rw [writeResult, if_neg (not_not.mpr h0), if_neg (not_not.mpr h1)]

/-- A response that is not good fails the batched and the single write at the same byte. -/
theorem write_bad {r : Frame} (h : writeOk true r ≠ true) : ∃ b got,
    (∀ n ins, validateWriteFrom true n (r :: ins) = .error (.unexpectedHandshake n b got)) ∧
      ∀ v, writeResult v r = .err (.unexpectedHandshake 0 b got) := by
  by_cases h0 : r.b0 = handshake
  · have h1 : r.b1 ≠ handshake := fun h1 => h (by simp [writeOk, h0, h1])
    exact ⟨1, r.b1, validateWriteFrom_cons_bad1 h0 h1, fun v => by
      rw [writeResult, if_neg (not_not.mpr h0), if_pos h1]⟩
  · exact ⟨0, r.b0, validateWriteFrom_cons_bad0 h0, fun v => if_pos h0⟩

/-- A batched write reports the failure of the first single write that fails, at its index and byte (R93, R94). -/
theorem validateWriteFrom_fails_iff {pairs : List (Byte × Byte)} {ins : List Frame} (hl : ins.length = pairs.length)
    {n m : Nat} {b : Fin 2} {got : Byte} :
    validateWriteFrom true n ins = .error (.unexpectedHandshake m b got) ↔
      FailsFrom n (writeResults pairs ins) m b got := by
  induction pairs generalizing ins n with
  | nil =>
    obtain rfl := List.eq_nil_of_length_eq_zero hl
    simp [validateWriteFrom, writeResults, not_failsFrom_nil]
  | cons p pairs ih =>
    obtain ⟨r, ins, rfl⟩ := List.exists_cons_of_length_eq_add_one hl
    have cons : writeResults (p :: pairs) (r :: ins) = some (writeResult p.2 r) :: writeResults pairs ins := rfl
    by_cases hr : writeOk true r = true
    · rw [validateWriteFrom_cons_ok hr, cons, writeResult_ok hr, failsFrom_byte, ih (Nat.succ.inj hl)]
    · obtain ⟨b', got', batch, single⟩ := write_bad hr
      simp [batch, cons, single, failsFrom_failure]

/-- A batched write passes exactly if each single write returns its operand (R82, R95). -/
theorem validateWriteFrom_passes_iff {pairs : List (Byte × Byte)} {ins : List Frame} (hl : ins.length = pairs.length)
    {n : Nat} :
    validateWriteFrom true n ins = .ok () ↔ writeResults pairs ins = pairs.map fun p => some (.ok (.byte p.2)) := by
  induction pairs generalizing ins n with
  | nil =>
    obtain rfl := List.eq_nil_of_length_eq_zero hl
    simp [validateWriteFrom, writeResults]
  | cons p pairs ih =>
    obtain ⟨r, ins, rfl⟩ := List.exists_cons_of_length_eq_add_one hl
    have cons : writeResults (p :: pairs) (r :: ins) = some (writeResult p.2 r) :: writeResults pairs ins := rfl
    by_cases hr : writeOk true r = true
    · simp [validateWriteFrom_cons_ok hr, cons, writeResult_ok hr, ih (Nat.succ.inj hl)]
    · obtain ⟨b', got', batch, single⟩ := write_bad hr
      simp [batch, cons, single]

/-! ### The batch and the single accesses -/

theorem outcomeOf_eq_err {α : Type} {value : α → Value} {v : Except ErrorRec α} {e : ErrorRec} :
    outcomeOf value v = .err e ↔ v = .error e := by
  cases v <;> simp [outcomeOf]

theorem outcomeOf_eq_bytes {v : Except ErrorRec (List Byte)} {vals : List Byte} :
    outcomeOf .bytes v = .ok (.bytes vals) ↔ v = .ok vals := by
  cases v <;> simp [outcomeOf]

theorem outcomeOf_eq_unit {v : Except ErrorRec Unit} : outcomeOf (fun _ => .unit) v = .ok .unit ↔ v = .ok () := by
  cases v <;> simp [outcomeOf]

theorem batch_sends {r : Result} {outs : List Frame} {ans : Option (List Frame)} {rest : List Reply}
    (h : Ends s t r [.xferBatch outs ans] rest) : framesSent t.hist = framesSent s.hist ++ outs := by
  rw [h.hist, framesSent_append]
  exact congrArg _ (List.append_nil outs)

/-- Outcomes that do not depend on the operands are those of the responses alone. -/
theorem zipWith_right {α β γ : Type} {g : β → γ} {xs : List α} {ys : List β} (h : ys.length = xs.length) :
    List.zipWith (fun _ y => g y) xs ys = ys.map g := by
  have pairs : List.zipWith (fun _ y => g y) xs ys = ((xs.zip ys).map Prod.snd).map g := by
    rw [List.map_map, ← List.map_uncurry_zip_eq_zipWith]
    rfl
  rw [pairs, List.map_snd_zip h.le]

/-- The device's answers to an open, usable, idle handle are no matter of the handle. -/
theorem ready_withReplies (hs : Ready s) (replies : List Reply) : Ready { s with replies := replies } :=
  ⟨hs.isOpen, hs.usable, hs.noCommand⟩

/-- Settles O58: the batch ends with the validation of its frames, each single read with that of its own. -/
theorem batchReadIsSequentialReads : Obligations.BatchReadIsSequentialReads := by
  intro s addrs ins rest hs ha hl
  obtain ⟨tb, hb, batch, -⟩ := rdregs_answered (ready_withReplies hs (.answer (.ok ins) :: rest)) rfl ha hl
  obtain ⟨ts, hts, sent, results⟩ := execAll_singles (cmd := .rdreg) (fun a h => rdreg_answeredBy (ha a h)) hl
    (ready_withReplies hs ((ins.map fun r => .answer (.ok [r])) ++ rest)) rfl
  rw [zipWith_right hl] at results
  refine ⟨tb, ts, hb, hts, ?_, ?_⟩
  · exact (batch_sends batch).trans sent.symm
  rw [results, batch.res]
  refine ⟨fun vals => ?passes, fun k got => ?fails⟩
  case passes =>
    rw [Option.some.injEq, outcomeOf_eq_bytes, validateRead, validateReadFrom_passes_iff]
  case fails =>
    rw [Option.some.injEq, outcomeOf_eq_err, validateRead, validateReadFrom_fails_iff, failsFrom_zero]
    rfl

/-- Settles O59: as for the reads, with both bytes of each frame checked. -/
theorem batchWriteIsSequentialWrites : Obligations.BatchWriteIsSequentialWrites := by
  intro s pairs ins rest hs hp hl
  obtain ⟨tb, hb, batch, -⟩ := wrregs_answered (ready_withReplies hs (.answer (.ok ins) :: rest)) rfl hp hl
  obtain ⟨ts, hts, sent, results⟩ := execAll_singles (cmd := fun p : Byte × Byte => .wrreg p.1 p.2)
    (fun p h => wrreg_answeredBy (hp p h) p.2) hl (ready_withReplies hs ((ins.map fun r => .answer (.ok [r])) ++ rest)) rfl
  refine ⟨tb, ts, hb, hts, ?_, ?_⟩
  · exact (batch_sends batch).trans sent.symm
  rw [results, batch.res]
  refine ⟨?passes, fun k b got => ?fails⟩
  case passes =>
    rw [Option.some.injEq, outcomeOf_eq_unit, validateWrite, validateWriteFrom_passes_iff hl]
    rfl
  case fails =>
    rw [Option.some.injEq, outcomeOf_eq_err, validateWrite, validateWriteFrom_fails_iff hl, failsFrom_zero]
    rfl

end Sys2Proof.Proofs
end

section
/-! PROOFS. The handle commands and `RDSAMPLE` (spec/41_device_controller.md R100 to R104, R117): what each answer of the
transport ends `OPEN` and `CLOSE` with, and what an admitted command refuses by its own check. -/

namespace Sys2Proof.Proofs

open Sys2Proof.Machine

variable {s : State}

/-- Settles O24: the five responses are good reads, and their bytes have a sample. -/
theorem rdsampleReturnsTheSample : Obligations.RdsampleReturnsTheSample := by
  intro s b0 b1 b2 b3 b4 rest hs hr
  exact rdsample_ends (vals := [b0, b1, b2, b3, b4]) hs hr rfl rfl

/-! ### `OPEN` -/

section Open

variable {bus cs : Byte} {a : Answer} {rest : List Reply}

theorem openReturned_ok (ins : List Frame) (s : State) :
    openReturned bus cs (.ok ins) s = issue .tConfigure (setChannel ⟨bus, cs⟩ (record (.opened bus cs true) s)) := rfl

theorem openReturned_fail (s : State) :
    openReturned bus cs .fail s =
      raiseError (.transportError .openCall) (dropHandle (record (.opened bus cs false) s)) := rfl

theorem configureReturned_ok (ins : List Frame) (s : State) :
    configureReturned (.ok ins) s = finish (.ok .unit) (freshHandle (record (.configured xcfgConst true) s)) := rfl

theorem configureReturned_fail (s : State) :
    configureReturned .fail s = issue .tRelease (record (.configured xcfgConst false) s) := rfl

/-- An admitted `OPEN` whose `TOpen` is answered goes on with the answer. -/
theorem exec_open (hs : NoHandle s) (hr : s.replies = .answer a :: rest) :
    exec (.openCh bus cs) s = .next (drain rest (openReturned bus cs a (begin (.openCh bus cs) s))) := by
  have admitted : exec (.openCh bus cs) s = .next (run (issue .tOpen (begin (.openCh bus cs) s))) :=
    (exec_command rfl s).trans (command_admitted (admission_open hs bus cs))
  rw [admitted, run, issue_replies, begin_replies, hr, drain_answer (issue_call _ _)]
  rfl

/-- The channel of an admitted `OPEN` is open and to be configured. -/
def configuring (bus cs : Byte) (s : State) : State :=
  setChannel ⟨bus, cs⟩ (record (.opened bus cs true) (begin (.openCh bus cs) s))

/-- An `OPEN` whose `TOpen` succeeds goes on with the answer to `TConfigure`. -/
theorem exec_open_configures {ins : List Frame} (hs : NoHandle s) (hr : s.replies = .answer (.ok ins) :: .answer a :: rest) :
    exec (.openCh bus cs) s = .next (drain rest (configureReturned a (configuring bus cs s))) := by
  rw [exec_open hs hr, openReturned_ok, drain_answer (issue_call _ _)]
  rfl

/-- An `OPEN` whose `TConfigure` fails ends when its `TRelease` returns. -/
theorem exec_open_releases {ins : List Frame}
    (hs : NoHandle s) (hr : s.replies = .answer (.ok ins) :: .answer .fail :: .answer a :: rest) :
    exec (.openCh bus cs) s =
      .next (drain rest (openReleased (record (.configured xcfgConst false) (configuring bus cs s)))) := by
  rw [exec_open_configures hs hr, configureReturned_fail, drain_answer (issue_call _ _)]
  rfl

end Open

/-- Settles O29: both calls succeed, so the configured channel becomes the fresh handle. -/
theorem openGivesAFreshHandle : Obligations.OpenGivesAFreshHandle := by
  intro s bus cs ins1 ins2 rest hs hr
  refine ⟨_, exec_open_configures hs hr, ?_⟩
  rw [configureReturned_ok, drain_noCall rfl]
  exact ⟨⟨⟨rfl, rfl, rfl⟩, rfl, List.append_assoc _ _ _, rfl, ⟨rfl, rfl, rfl⟩⟩, rfl, rfl, rfl, rfl, rfl, rfl, rfl, rfl, rfl⟩

/-- Settles O30: the first call that fails decides the error; a channel that was opened is released before the end. -/
theorem failedOpenLeavesNoHandle : Obligations.FailedOpenLeavesNoHandle := by
  intro s bus cs rest hs
  refine ⟨fun hr => ⟨_, exec_open hs hr, ?_⟩, fun ins a hr => ⟨_, exec_open_releases hs hr, ?_⟩⟩
  · rw [openReturned_fail, drain_noCall rfl]
    exact ⟨⟨⟨rfl, rfl, rfl⟩, rfl, rfl, rfl, ⟨rfl, rfl, rfl⟩⟩, rfl, rfl, rfl, rfl, rfl, rfl, rfl, rfl⟩
  · rw [openReleased, drain_noCall rfl]
    refine ⟨⟨⟨rfl, rfl, rfl⟩, rfl, ?_, rfl, ⟨rfl, rfl, rfl⟩⟩, rfl, rfl, rfl, rfl, rfl, rfl, rfl, rfl⟩
    exact (List.append_assoc _ _ _).trans (List.append_assoc _ _ _)

/-! ### `CLOSE` -/

/-- An admitted `CLOSE` ends when its `TRelease` returns, whatever the answer. -/
theorem exec_close {a : Answer} {rest : List Reply} (ho : s.isOpen = true) (hn : s.cmd = none)
    (hr : s.replies = .answer a :: rest) :
    exec .closeCh s = .next (setReplies rest (closeReleased (begin .closeCh s))) := by
  have admitted : exec .closeCh s = .next (run (issue .tRelease (begin .closeCh s))) :=
    (exec_command rfl s).trans (command_admitted (admission_close ho hn))
  rw [admitted, run, issue_replies, begin_replies, hr, drain_answer (issue_call _ _)]
  exact congrArg Host.Outcome.next (drain_noCall rfl rest)

/-- Nothing of the handle survives a `CLOSE`: what it leaves is made of the elements named here (R143). -/
theorem closeReleased_eq {s s' : State} (refused : s'.refused = s.refused) (hist : s'.hist = s.hist)
    (presented : s'.presented = s.presented) (replies : s'.replies = s.replies) (reason : s'.reason = s.reason)
    (fresh : s'.fresh = s.fresh) : closeReleased (begin .closeCh s') = closeReleased (begin .closeCh s) := by
  simp only [closeReleased, finish, loseFrames, dropHandle, record, begin, refused, hist, presented, replies, reason, fresh]

/-- Settles O31: the end of the release drops the handle, and what it leaves does not depend on it. -/
theorem closeReleasesTheHandle : Obligations.CloseReleasesTheHandle := by
  intro s a rest ho hn hr
  refine ⟨⟨_, exec_close ho hn hr, ⟨⟨rfl, rfl, rfl⟩, rfl, rfl, rfl, ⟨rfl, rfl, rfl⟩⟩, rfl, rfl, rfl, rfl, rfl, rfl⟩, ?_⟩
  intro s' ho' hn' refused hist presented replies reason fresh
  rw [exec_close ho' hn' (replies.trans hr), exec_close ho hn hr,
    closeReleased_eq refused hist presented replies reason fresh]

/-! ### `SETDBG`, and the refusal by a command's own check -/

/-- A refusal by the command's own check leaves an idle RAC as it was (R80, R137). -/
theorem refuseAdmitted_onlyRefused (hi : Idle s) (r : RefuseReason) (c : Instr) :
    OnlyRefused r s (refuseAdmitted r (begin c s)) :=
  ⟨rfl, rfl, ⟨⟨rfl, rfl, rfl⟩, rfl, rfl, rfl⟩, ⟨rfl, rfl⟩, hi.noCommand.symm, hi.noStage.symm, rfl, rfl, rfl, hi.noCall.symm, rfl⟩

/-- An admitted command whose start makes no call has ended there. -/
theorem exec_withoutCall {c : Instr} {t : State} (format : c.format = .cmd) (ha : admission c s = none)
    (hst : startOf c (begin c s) = t) (hcall : t.call = none) : exec c s = .next t := by
  rw [exec_command format, command_admitted ha, hst, run_noCall hcall]

theorem startSetdbg_reserved {d : Byte} (h : 0x01#8 < d) (s : State) :
    startSetdbg d s = refuseAdmitted .reservedOperand s := if_pos h

theorem startSetdbg_flag (d : Bool) (s : State) :
    startSetdbg (if d then 0x01#8 else 0x00#8) s = finish (.ok .unit) (setDebug d s) := by
  cases d <;> rfl

/-- Settles O32: the operand is the flag, or it is above `0x01` and refused. -/
theorem setdbgWritesTheDebugFlag : Obligations.SetdbgWritesTheDebugFlag := by
  intro s hs
  have admitted (d : Byte) : admission (.setdbg d) s = none := admission_ready hs fun _ _ => nofun
  refine ⟨fun d => ⟨_, exec_withoutCall rfl (admitted _) (startSetdbg_flag d _) rfl, ?_⟩, fun d reserved hi => ?_⟩
  · exact ⟨⟨⟨rfl, rfl, rfl⟩, rfl, (List.append_nil _).symm, rfl, ⟨rfl, rfl, rfl⟩⟩, rfl, ⟨rfl, rfl, rfl⟩, rfl, rfl,
      ⟨rfl, rfl⟩, rfl⟩
  · exact ⟨_, exec_withoutCall rfl (admitted d) (startSetdbg_reserved reserved _) rfl,
      refuseAdmitted_onlyRefused hi _ _, rfl⟩

theorem startInit_refused (h : s.phase ≠ .uninitialized) : startInit s = refuseAdmitted .alreadyInitialized s := if_neg h

/-- Settles O34: `INIT` is admitted and refused by its own check of the phase. -/
theorem initIsRefusedOutsideUninitialized : Obligations.InitIsRefusedOutsideUninitialized := fun s hs hi phase =>
  ⟨_, exec_withoutCall rfl (admission_ready hs fun _ _ => nofun) (startInit_refused (s := begin .init s) phase) rfl,
    refuseAdmitted_onlyRefused hi _ _, rfl⟩

end Sys2Proof.Proofs
end

section
/-! PROOFS. The bring-up sequencer (spec/41_device_controller.md R105 to R116): what each stage of `INIT` does with the answer it
waits for, said once from the presented command on, and the ends of `INIT` put together from the stages. -/

namespace Sys2Proof.Proofs

open Sys2Proof.Machine

variable {s t u : State} {q q' : Seq} {p p' : Pending} {outs outs' : List Frame} {events events' : List Event}
  {replies rest : List Reply} {phase phase' : Phase} {e : ErrorRec} {a : Answer} {r : Frame} {ins : List Frame}

/-! ### `INIT` in progress, one part after the other -/

theorem goesOn_trans {w : State} (on : GoesOn s u q p outs events replies phase)
    (on' : GoesOn u w q' p' outs' events' rest phase') : GoesOn s w q' p' outs' (events ++ events') rest phase' where
  cmd := on'.cmd
  seq := on'.seq
  call := on'.call
  outbuf := on'.outbuf
  hist := by rw [on'.hist, on.hist, List.append_assoc]
  replies := on'.replies
  phase := on'.phase
  unusable := on'.unusable.trans on.unusable
  debug := Eq.trans on'.debug on.debug
  res := on'.res.trans on.res
  channel := ⟨on'.channel.isOpen.trans on.channel.isOpen, on'.channel.ch.trans on.channel.ch,
    on'.channel.xcfg.trans on.channel.xcfg⟩
  caller := ⟨on'.caller.presented.trans on.caller.presented, on'.caller.refused.trans on.caller.refused,
    on'.caller.reason.trans on.caller.reason⟩

/-- What ends `INIT` at a stage it has gone on to ends it from its beginning. -/
theorem goesOn_ends {result : Result} (on : GoesOn s u q p outs events replies phase)
    (ends : Ends u t result events' rest) : Ends s t result (events ++ events') rest where
  idle := ends.idle
  res := ends.res
  hist := by rw [ends.hist, on.hist, List.append_assoc]
  replies := ends.replies
  caller := ⟨ends.caller.presented.trans on.caller.presented, ends.caller.refused.trans on.caller.refused,
    ends.caller.reason.trans on.caller.reason⟩

theorem goesOn_sameChannel (on : GoesOn s u q p outs events replies phase) (h : SameChannel u t) : SameChannel s t :=
  ⟨h.isOpen.trans on.channel.isOpen, h.ch.trans on.channel.ch, h.xcfg.trans on.channel.xcfg⟩

theorem goesOn_aborts (on : GoesOn s u q p outs events replies phase) (aborts : Aborts u t e events' rest phase') :
    Aborts s t e (events ++ events') rest phase' :=
  ⟨goesOn_ends on aborts.ends, goesOn_sameChannel on aborts.channel, Eq.trans aborts.debug on.debug, aborts.unusable,
    aborts.phase⟩

/-- A single transfer in progress is the exchange of its frame. -/
theorem goesOn_wireFrame {f : Frame} (on : GoesOn s u q .xfer [f] events replies phase) :
    wireFrame f u = .next (run u) := by
  have issued : issueXfer f u = u := by rw [issueXfer, issue, ← on.outbuf, ← on.call]
  rw [wireFrame_inTransfer on.cmd (.inr on.call), issued]

theorem goesOn_run (on : GoesOn s u q p outs events (.answer a :: rest) phase) : run u = drain rest (returned p a u) := by
  rw [run, on.replies, drain_answer on.call]

/-- The command in progress in `u` is told that its call has returned. -/
theorem exchanged_endCall (event : Event) (u : State) : Exchanged u (record event (endCall u)) [event] :=
  ⟨rfl, rfl, rfl, rfl, ⟨⟨rfl, rfl, rfl⟩, rfl, rfl, rfl⟩, ⟨rfl, rfl, rfl⟩⟩

/-- `INIT` issues the call of its next stage, with the frames of that stage in `OUTBUF`. -/
theorem exchanged_goesOn {w : State} (h : Exchanged s u events) (hc : s.cmd = some .init)
    (hw : w = issue p { setSeq q u with outbuf := outs }) : GoesOn s (setReplies rest w) q p outs events rest s.phase := by
  subst hw
  exact {
    cmd := h.cmd.trans hc
    seq := rfl
    call := rfl
    outbuf := rfl
    hist := h.hist
    replies := rfl
    phase := h.handle.phase
    unusable := h.handle.unusable
    debug := h.handle.debug
    res := h.res
    channel := ⟨h.handle.channel.isOpen, h.handle.channel.ch, h.handle.channel.xcfg⟩
    caller := ⟨h.caller.presented, h.caller.refused, h.caller.reason⟩ }

/-! ### The stage a presented `INIT` has come to -/

/-- `INIT` presented to `s` comes to stage `q`: the call of that stage is in progress, `events` are appended, and the transport
answers `replies` from there on. -/
def InitReaches (s : State) (q : Seq) (events : List Event) (replies : List Reply) : Prop :=
  ∃ p u, initInFlight q = some p ∧ exec .init s = .next (run u) ∧ GoesOn s u q p.1 p.2 events replies (initPhase q)

/-- `INIT` presented to `s` ends with error `e`. -/
def InitAborts (s : State) (e : ErrorRec) (events : List Event) (rest : List Reply) (phase : Phase) : Prop :=
  ∃ t, exec .init s = .next t ∧ Aborts s t e events rest phase

/-- `INIT` presented to `s` ends with the device configured. -/
def InitConfigures (s : State) (events : List Event) (rest : List Reply) : Prop :=
  ∃ t, exec .init s = .next t ∧ Ends s t (.ok .unit) events rest ∧
    SameChannel s t ∧ t.debug = s.debug ∧ t.unusable = s.unusable ∧ t.phase = .configured

/-- An admitted `INIT` in phase `Uninitialized` begins with the reset write (R105, R106). -/
theorem init_reachesPor (hs : Ready s) (hp : s.phase = .uninitialized) (hr : s.replies = replies) :
    InitReaches s .por [] replies := by
  have admitted : admission .init s = none := admission_ready hs fun _ _ => nofun
  refine ⟨_, enterPor (begin .init s), rfl, ?_, ?_⟩
  · rw [exec_command rfl, command_admitted admitted]
    exact congrArg (fun u => Host.Outcome.next (run u)) (startInit_uninitialized (s := begin .init s) hp)
  · exact ⟨rfl, rfl, rfl, rfl, (List.append_nil _).symm, hr, hp, rfl, rfl, rfl, ⟨rfl, rfl, rfl⟩, ⟨rfl, rfl, rfl⟩⟩

namespace InitReaches

/-- The frame of a stage is exchanged and `INIT` goes on. -/
theorem exchange {f : Frame} (h : InitReaches s q events replies) (hq : initInFlight q = some (.xfer, [f]))
    (hq' : initInFlight q' = some (p', outs'))
    (next : ∀ u, GoesOn s u q .xfer [f] events replies (initPhase q) →
      ∃ w, wireFrame f u = .next (run w) ∧ GoesOn u w q' p' outs' events' rest (initPhase q')) :
    InitReaches s q' (events ++ events') rest := by
  obtain ⟨p, u, hp, hu, on⟩ := h
  obtain rfl := Option.some.inj (hq.symm.trans hp)
  obtain ⟨w, hw, on'⟩ := next u on
  exact ⟨_, w, hq', hu.trans ((goesOn_wireFrame on).symm.trans hw), goesOn_trans on on'⟩

/-- The frame of a stage is exchanged and `INIT` ends. -/
theorem exchangeAborts {f : Frame} (h : InitReaches s q events replies) (hq : initInFlight q = some (.xfer, [f]))
    (ends : ∀ u, GoesOn s u q .xfer [f] events replies (initPhase q) →
      ∃ t, wireFrame f u = .next t ∧ Aborts u t e events' rest (initPhase q)) :
    InitAborts s e (events ++ events') rest (initPhase q) := by
  obtain ⟨p, u, hp, hu, on⟩ := h
  obtain rfl := Option.some.inj (hq.symm.trans hp)
  obtain ⟨t, ht, aborts⟩ := ends u on
  exact ⟨t, hu.trans ((goesOn_wireFrame on).symm.trans ht), goesOn_aborts on aborts⟩

variable (h : InitReaches s q events (.answer a :: rest)) (hq : initInFlight q = some (p, outs))

include h hq

/-- The call of a stage returns and `INIT` goes on. -/
theorem returns (hq' : initInFlight q' = some (p', outs'))
    (next : ∀ u, GoesOn s u q p outs events (.answer a :: rest) (initPhase q) →
      GoesOn u (setReplies rest (returned p a u)) q' p' outs' events' rest (initPhase q')) :
    InitReaches s q' (events ++ events') rest := by
  obtain ⟨p, u, hp, hu, on⟩ := h
  obtain rfl := Option.some.inj (hq.symm.trans hp)
  exact ⟨_, _, hq', by rw [hu, goesOn_run on, drain_eq_run], goesOn_trans on (next u on)⟩

/-- The call of a stage returns and `INIT` raises an error. -/
theorem returnAborts (raises : ∀ u, GoesOn s u q p outs events (.answer a :: rest) (initPhase q) →
      ∃ w, returned p a u = raiseAccess e w ∧ Exchanged u w events') :
    InitAborts s e (events ++ events') rest (initPhase q) := by
  obtain ⟨p, u, hp, hu, on⟩ := h
  obtain rfl := Option.some.inj (hq.symm.trans hp)
  obtain ⟨w, hw, ex⟩ := raises u on
  refine ⟨_, by rw [hu, goesOn_run on, hw, drain_noCall rfl], goesOn_aborts on ?_⟩
  exact on.phase ▸ ex.aborts on.cmd

/-- The call of a stage returns and `INIT` ends with the device configured (R111). -/
theorem returnConfigures (ends : ∀ u, GoesOn s u q p outs events (.answer a :: rest) (initPhase q) →
      ∃ w, returned p a u = returnValue .unit (setPhase .configured w) ∧ Exchanged u w events') :
    InitConfigures s (events ++ events') rest := by
  obtain ⟨p, u, hp, hu, on⟩ := h
  obtain rfl := Option.some.inj (hq.symm.trans hp)
  obtain ⟨w, hw, ex⟩ := ends u on
  obtain ⟨presented, refused, reason⟩ := ex.caller
  obtain ⟨isOpen, ch, xcfg⟩ := ex.handle.channel
  refine ⟨_, by rw [hu, goesOn_run on, hw, drain_noCall rfl], ?_⟩
  exact ⟨goesOn_ends on (returnValue_ends ex.hist ⟨presented, refused, reason⟩), goesOn_sameChannel on ⟨isOpen, ch, xcfg⟩,
    Eq.trans ex.handle.debug on.debug, ex.handle.unusable.trans on.unusable, rfl⟩

end InitReaches

/-- A single transfer whose answer is no frame ends `INIT` (R90, R126). -/
theorem init_transferAborts {f : Frame} (h : InitReaches s q events (.answer a :: rest))
    (hq : initInFlight q = some (.xfer, [f])) (ha : answerOne a = none) :
    InitAborts s (.transportError .transfer) (events ++ [.xfer f none]) rest (initPhase q) :=
  h.returnAborts hq fun u on => ⟨_, returned_xfer_fail on.outbuf ha, (exchanged_endCall _ u).receiveNothing⟩

/-- A batch whose answer is not its number of frames ends `INIT` (R90, R126). -/
theorem init_batchAborts (h : InitReaches s q events (.answer a :: rest)) (hq : initInFlight q = some (.xferBatch, outs))
    (ha : answerMany outs.length a = none) :
    InitAborts s (.transportError .transferBatch) (events ++ [.xferBatch outs none]) rest (initPhase q) := by
  refine h.returnAborts hq fun u on => ?_
  obtain rfl := on.outbuf
  exact ⟨_, returned_batch_fail ha, (exchanged_endCall _ u).receiveNothing⟩

/-! ### The reset write and the identity checks -/

/-- What the read of an identity register appends to the history: the exchange, and its value when `DEBUG` is set (R116). -/
def identityEvents (s : State) (reg : Byte) (item : LogItem) (r : Frame) : List Event :=
  .xfer (readFrame reg) (some r) :: if s.debug then [.logged item r.b1] else []

/-- `INIT` does not change `DEBUG`, so what a read logs is told by the state it was presented to (R29). -/
theorem goesOn_identityEvents (on : GoesOn s u q p outs events replies phase) :
    identityEvents u = identityEvents s := by
  funext reg item r
  rw [identityEvents, on.debug, identityEvents]

section Por

variable (h : InitReaches s .por events (.answer (.ok [r]) :: rest))

include h

theorem init_porPasses (good : r = ⟨handshake, handshake⟩) :
    InitReaches s .pid (events ++ [.xfer (writeFrame regPor porValue) (some r)]) rest :=
  h.exchange rfl rfl fun _ on => on.phase ▸ por_goesOn (.inr on.call) on.cmd on.replies on.seq good

theorem init_porAborts (bad : r ≠ ⟨handshake, handshake⟩) :
    InitAborts s (if r.b0 = handshake then .unexpectedHandshake 0 1 r.b1 else .unexpectedHandshake 0 0 r.b0)
      (events ++ [.xfer (writeFrame regPor porValue) (some r)]) rest .uninitialized :=
  h.exchangeAborts rfl fun _ on => on.phase ▸ por_aborts (.inr on.call) on.cmd on.replies on.seq bad

end Por

section Pid

variable (h : InitReaches s .pid events (.answer (.ok [r]) :: rest))

include h

theorem init_pidPasses (good : r.b0 = handshake) (expected : r.b1 = pidExpected) :
    InitReaches s .ipid
      (events ++ identityEvents s regPid .productId r) rest :=
  h.exchange rfl rfl fun _ on =>
    on.phase ▸ goesOn_identityEvents on ▸ pid_goesOn (.inr on.call) on.cmd on.replies on.seq good expected

theorem init_pidAborts (bad : r.b0 ≠ handshake) :
    InitAborts s (.unexpectedHandshake 0 0 r.b0) (events ++ [.xfer (readFrame regPid) (some r)]) rest .uninitialized :=
  h.exchangeAborts rfl fun _ on => on.phase ▸ pid_aborts (.inr on.call) on.cmd on.replies on.seq bad

theorem init_pidMismatches (good : r.b0 = handshake) (other : r.b1 ≠ pidExpected) :
    InitAborts s (.identityMismatch regPid pidExpected r.b1)
      (events ++ identityEvents s regPid .productId r) rest
      .uninitialized :=
  h.exchangeAborts rfl fun _ on =>
    on.phase ▸ goesOn_identityEvents on ▸ pid_mismatches (.inr on.call) on.cmd on.replies on.seq good other

end Pid

section Ipid

variable (h : InitReaches s .ipid events (.answer (.ok [r]) :: rest))

include h

theorem init_ipidPasses (good : r.b0 = handshake) (expected : r.b1 = ipidExpected) :
    InitReaches s .b1
      (events ++ identityEvents s regIpid .inverseProductId r) rest :=
  h.exchange rfl rfl fun _ on =>
    goesOn_identityEvents on ▸ ipid_goesOn (.inr on.call) on.cmd on.replies on.seq good expected

theorem init_ipidAborts (bad : r.b0 ≠ handshake) :
    InitAborts s (.unexpectedHandshake 0 0 r.b0) (events ++ [.xfer (readFrame regIpid) (some r)]) rest .uninitialized :=
  h.exchangeAborts rfl fun _ on => on.phase ▸ ipid_aborts (.inr on.call) on.cmd on.replies on.seq bad

theorem init_ipidMismatches (good : r.b0 = handshake) (other : r.b1 ≠ ipidExpected) :
    InitAborts s (.identityMismatch regIpid ipidExpected r.b1)
      (events ++ identityEvents s regIpid .inverseProductId r) rest
      .uninitialized :=
  h.exchangeAborts rfl fun _ on =>
    on.phase ▸ goesOn_identityEvents on ▸ ipid_mismatches (.inr on.call) on.cmd on.replies on.seq good other

end Ipid

/-! ### The configuration batches and the delay -/

theorem b1Returned_good (h : validateWrite true ins = .ok ()) (s : State) :
    b1Returned ins s = enterDelay (receive (writeOk true) ins s) := by
  simp only [b1Returned, wbCheckByte1, h]

theorem b1Returned_bad (h : validateWrite true ins = .error e) (s : State) :
    b1Returned ins s = raiseAccess e (receive (writeOk true) ins s) := by
  simp only [b1Returned, wbCheckByte1, h]

theorem b2Returned_good (h : validateWrite true ins = .ok ()) (s : State) :
    b2Returned ins s = returnValue .unit (setPhase .configured (receive (writeOk true) ins s)) := by
  simp only [b2Returned, wbCheckByte1, h]

theorem b2Returned_bad (h : validateWrite true ins = .error e) (s : State) :
    b2Returned ins s = raiseAccess e (receive (writeOk true) ins s) := by
  simp only [b2Returned, wbCheckByte1, h]

theorem batch1_length : (writeFrames batch1).length = 55 := (writeFrames_length _).trans (tablePairs_length _)

theorem batch2_length : (writeFrames batch2).length = 14 := (writeFrames_length _).trans (tablePairs_length _)

/-- The batch of a stage of `INIT` has brought its frames back, and the stage does `f` with them. -/
theorem goesOn_batchReturned {f : State → State} (on : GoesOn s u q .xferBatch outs events replies phase)
    (hl : ins.length = outs.length) (delivered : ∀ t, t.cmd = some .init → t.seq = q → batchDelivered ins t = f t) :
    returned .xferBatch (.ok ins) u = f (record (.xferBatch outs (some ins)) (endCall u)) := by
  obtain rfl := on.outbuf
  rw [returned_batch_ok hl]
  exact delivered _ on.cmd on.seq

/-- A batch with a bad frame ends `INIT` (R94, R127). -/
theorem init_batchInvalid {good : Frame → Bool} (h : InitReaches s q events (.answer (.ok ins) :: rest))
    (hq : initInFlight q = some (.xferBatch, outs)) (hl : ins.length = outs.length)
    (delivered : ∀ t, t.cmd = some .init → t.seq = q → batchDelivered ins t = raiseAccess e (receive good ins t)) :
    InitAborts s e (events ++ [.xferBatch outs (some ins)]) rest (initPhase q) :=
  h.returnAborts hq fun u on =>
    ⟨_, goesOn_batchReturned (f := fun t => raiseAccess e (receive good ins t)) on hl delivered,
      (exchanged_endCall _ u).receive good ins⟩

section B1

variable (h : InitReaches s .b1 events (.answer (.ok ins) :: rest)) (hl : ins.length = 55)

include h hl

theorem init_b1Passes (good : validateWrite true ins = .ok ()) :
    InitReaches s .delay (events ++ [.xferBatch (writeFrames batch1) (some ins)]) rest := by
  refine h.returns rfl rfl fun u on => on.phase ▸ ?_
  rw [goesOn_batchReturned on (hl.trans batch1_length.symm)
    fun t hc hq => (batchDelivered_b1 hc hq ins).trans (b1Returned_good good t)]
  refine exchanged_goesOn ((exchanged_endCall _ u).receive (writeOk true) ins) on.cmd ?_
  rw [← on.outbuf]
  rfl

theorem init_b1Aborts (bad : validateWrite true ins = .error e) :
    InitAborts s e (events ++ [.xferBatch (writeFrames batch1) (some ins)]) rest .identified :=
  init_batchInvalid h rfl (hl.trans batch1_length.symm)
    fun t hc hq => (batchDelivered_b1 hc hq ins).trans (b1Returned_bad bad t)

end B1

/-- Any answer ends the settling delay (R110). -/
theorem init_delayEnds (h : InitReaches s .delay events (.answer a :: rest)) :
    InitReaches s .b2 (events ++ [.delayed settleMs]) rest := by
  refine h.returns rfl rfl fun u on => on.phase ▸ ?_
  have ended : returned .delay a u = enterB2 (record (.delayed settleMs) (endCall u)) := delayEnded_init (s := endCall u) on.cmd
  rw [ended, enterB2_eq]
  exact exchanged_goesOn (exchanged_endCall _ u) on.cmd rfl

section B2

variable (h : InitReaches s .b2 events (.answer (.ok ins) :: rest)) (hl : ins.length = 14)

include h hl

theorem init_b2Passes (good : validateWrite true ins = .ok ()) :
    InitConfigures s (events ++ [.xferBatch (writeFrames batch2) (some ins)]) rest :=
  h.returnConfigures rfl fun u on =>
    ⟨_, goesOn_batchReturned (f := fun t => returnValue .unit (setPhase .configured (receive (writeOk true) ins t))) on
      (hl.trans batch2_length.symm) fun t hc hq => (batchDelivered_b2 hc hq ins).trans (b2Returned_good good t),
      (exchanged_endCall _ u).receive (writeOk true) ins⟩

theorem init_b2Aborts (bad : validateWrite true ins = .error e) :
    InitAborts s e (events ++ [.xferBatch (writeFrames batch2) (some ins)]) rest .identified :=
  init_batchInvalid h rfl (hl.trans batch2_length.symm)
    fun t hc hq => (batchDelivered_b2 hc hq ins).trans (b2Returned_bad bad t)

end B2

/-- Frames with both handshake bytes pass, and the frame behind them fails at the first byte that is not (R93, R94). -/
theorem validateWrite_firstBad {good more : List Frame} {bad : Frame} (h : ∀ f ∈ good, f = ⟨0xFF#8, 0xFF#8⟩)
    (hb : bad ≠ ⟨0xFF#8, 0xFF#8⟩) :
    validateWrite true (good ++ bad :: more) =
      .error (if bad.b0 = 0xFF#8 then .unexpectedHandshake good.length 1 bad.b1
        else .unexpectedHandshake good.length 0 bad.b0) := by
  by_cases h0 : bad.b0 = 0xFF#8
  · have h1 : bad.b1 ≠ 0xFF#8 := fun h1 => hb (congrArg₂ Frame.mk h0 h1)
    rw [if_pos h0]
    exact validateWrite_firstBad1 (writeOk_both h) h0 h1
  · rw [if_neg h0]
    exact validateWrite_firstBad0 (writeOk_both h) h0

theorem validateWrite_replicate (n : Nat) : validateWrite true (List.replicate n ⟨0xFF#8, 0xFF#8⟩) = .ok () :=
  validateWrite_good (writeOk_both fun _ hf => List.eq_of_mem_replicate hf)

/-! ### Where `INIT` ends -/

section Ends

variable {s : State} {rest : List Reply} (hs : Ready s) (hp : s.phase = .uninitialized)

include hs hp

/-- After a good reset write `INIT` is at the product ID. -/
theorem init_reachesPid (hr : s.replies = .answer (.ok [⟨0xFF#8, 0xFF#8⟩]) :: rest) :
    InitReaches s .pid [.xfer ⟨0xBA#8, 0x5A#8⟩ (some ⟨0xFF#8, 0xFF#8⟩)] rest :=
  init_porPasses (init_reachesPor hs hp hr) rfl

/-- After a good product ID `INIT` is at the inverse product ID. -/
theorem init_reachesIpid
    (hr : s.replies = .answer (.ok [⟨0xFF#8, 0xFF#8⟩]) :: .answer (.ok [⟨0xFF#8, 0x49#8⟩]) :: rest) :
    InitReaches s .ipid
      (.xfer ⟨0xBA#8, 0x5A#8⟩ (some ⟨0xFF#8, 0xFF#8⟩) :: identityEvents s regPid .productId ⟨0xFF#8, 0x49#8⟩) rest :=
  init_pidPasses (init_reachesPid hs hp hr) rfl rfl

/-- After both identity checks `INIT` is at batch 1. -/
theorem init_reachesB1
    (hr : s.replies = .answer (.ok [⟨0xFF#8, 0xFF#8⟩]) :: .answer (.ok [⟨0xFF#8, 0x49#8⟩]) ::
      .answer (.ok [⟨0xFF#8, 0xB6#8⟩]) :: rest) :
    InitReaches s .b1
      (.xfer ⟨0xBA#8, 0x5A#8⟩ (some ⟨0xFF#8, 0xFF#8⟩) :: identityEvents s regPid .productId ⟨0xFF#8, 0x49#8⟩ ++
        identityEvents s regIpid .inverseProductId ⟨0xFF#8, 0xB6#8⟩) rest :=
  init_ipidPasses (init_reachesIpid hs hp hr) rfl rfl

end Ends

/-- Settles O37: the reset write fails, or its response does at byte 0 or at byte 1. -/
theorem initAbortsAtTheResetWrite : Obligations.InitAbortsAtTheResetWrite := by
  intro s r rest hs hp
  refine ⟨fun hr => ?fails, fun hr bad => ?byte0, fun hr good bad => ?byte1⟩
  case fails => exact init_transferAborts (init_reachesPor hs hp hr) rfl rfl
  case byte0 =>
    have aborts := init_porAborts (init_reachesPor hs hp hr) fun good => bad (congrArg Frame.b0 good)
    rwa [if_neg (show r.b0 ≠ handshake from bad)] at aborts
  case byte1 =>
    have aborts := init_porAborts (init_reachesPor hs hp hr) fun good => bad (congrArg Frame.b1 good)
    rwa [if_pos (show r.b0 = handshake from good)] at aborts

/-- Settles O38: the product ID read fails, its handshake does, or the value is another. -/
theorem initAbortsAtTheProductId : Obligations.InitAbortsAtTheProductId := fun _ _ _ hs hp =>
  ⟨fun hr => init_transferAborts (init_reachesPid hs hp hr) rfl rfl,
    fun hr => ⟨init_pidAborts (init_reachesPid hs hp hr), init_pidMismatches (init_reachesPid hs hp hr)⟩⟩

/-- Settles O39: as for the product ID, one read later. -/
theorem initAbortsAtTheInverseProductId : Obligations.InitAbortsAtTheInverseProductId := by
  rintro s r rest before hs hp rfl
  refine ⟨fun hr => init_transferAborts (init_reachesIpid hs hp hr) rfl rfl,
    fun hr => ⟨init_ipidAborts (init_reachesIpid hs hp hr), fun good other => ?_⟩⟩
  rw [List.append_assoc _ [_]]
  exact init_ipidMismatches (init_reachesIpid hs hp hr) good other

/-- Settles O40: batch 1 fails as a call, or at its first bad frame. -/
theorem initAbortsAtBatch1 : Obligations.InitAbortsAtBatch1 := by
  intro s good more bad rest hs hp hd
  have atB1 (replies : List Reply) := init_reachesB1 (rest := replies) hs hp
  simp only [identityEvents, hd, Bool.false_eq_true, if_false] at atB1
  rw [← writeFrames_table]
  refine ⟨fun hr => init_batchAborts (atB1 _ hr) rfl rfl, fun hr hl pass hb => ?_⟩
  exact init_b1Aborts (atB1 _ hr) hl (validateWrite_firstBad pass hb)

/-- Settles O41: batch 1 passes, the delay ends, and batch 2 fails as batch 1 can. -/
theorem initAbortsAtBatch2 : Obligations.InitAbortsAtBatch2 := by
  rintro s delayEnd good more bad rest before hs hp hd rfl
  have atB1 (replies : List Reply) := init_reachesB1 (rest := replies) hs hp
  simp only [identityEvents, hd, Bool.false_eq_true, if_false] at atB1
  rw [← writeFrames_table, ← writeFrames_table]
  have atB2 (replies : List Reply) hr := init_delayEnds (a := delayEnd) (rest := replies)
    (init_b1Passes (atB1 _ hr) List.length_replicate (validateWrite_replicate 55))
  refine ⟨fun hr => init_batchAborts (atB2 _ hr) rfl rfl, fun hr hl pass hb => ?_⟩
  exact init_b2Aborts (atB2 _ hr) hl (validateWrite_firstBad pass hb)

/-- Settles O35: every stage passes, one after the other. -/
theorem initConfiguresTheDevice : Obligations.InitConfiguresTheDevice := by
  intro s delayEnd rest hs hp hr
  have atDelay := init_b1Passes (init_reachesB1 hs hp hr) List.length_replicate (validateWrite_replicate 55)
  obtain ⟨t, ht, ends, channel, debug, unusable, phase⟩ :=
    init_b2Passes (init_delayEnds atDelay) List.length_replicate (validateWrite_replicate 14)
  refine ⟨t, ht, ?_, channel, debug, unusable.trans hs.usable, phase⟩
  rw [← writeFrames_table, ← writeFrames_table]
  simp only [List.append_assoc] at ends ⊢
  exact ends

/-! ### Every answer -/

/-- What an admitted `INIT` presented to `s` can leave: it is in progress, or has configured the device, or has ended with an
error that made the handle unusable (R113, R120). -/
structure InitLeaves (s t : State) : Prop where
  channel : SameChannel s t
  debug : t.debug = s.debug
  outcome : t.cmd = some .init ∨
    (t.cmd = none ∧ t.res = some (.ok .unit) ∧ t.phase = .configured ∧ t.unusable = false) ∨
    (t.cmd = none ∧ (∃ e, t.res = some (.err e)) ∧ (t.phase = .uninitialized ∨ t.phase = .identified) ∧ t.unusable = true)

section Leaves

variable (ht : exec .init s = .next t)

include ht

theorem InitAborts.leaves (h : InitAborts s e events rest phase) (hp : phase = .uninitialized ∨ phase = .identified) :
    InitLeaves s t := by
  obtain ⟨t', ht', aborts⟩ := h
  obtain rfl := Host.Outcome.next.inj (ht'.symm.trans ht)
  exact ⟨aborts.channel, aborts.debug, .inr (.inr
    ⟨aborts.ends.idle.noCommand, ⟨e, aborts.ends.res⟩, aborts.phase.symm ▸ hp, aborts.unusable⟩)⟩

theorem InitConfigures.leaves (h : InitConfigures s events rest) (hs : Ready s) : InitLeaves s t := by
  obtain ⟨t', ht', ends, channel, debug, unusable, phase⟩ := h
  obtain rfl := Host.Outcome.next.inj (ht'.symm.trans ht)
  exact ⟨channel, debug, .inr (.inl ⟨ends.idle.noCommand, ends.res, phase, unusable.trans hs.usable⟩)⟩

/-- `INIT` waits in the call of its stage, or is answered. -/
theorem InitReaches.leaves (h : InitReaches s q events replies)
    (answered : ∀ a rest, InitReaches s q events (.answer a :: rest) → InitLeaves s t) : InitLeaves s t := by
  have waits (hr : Unanswered (setReplies replies s)) : InitLeaves s t := by
    obtain ⟨p, u, -, hu, on⟩ := h
    have stays : run u = u := run_unanswered (show Unanswered u by rw [Unanswered, on.replies]; exact hr)
    obtain rfl := Host.Outcome.next.inj ((stays ▸ hu).symm.trans ht)
    exact ⟨on.channel, on.debug, .inl on.cmd⟩
  cases replies with
  | nil => exact waits (.inl rfl)
  | cons reply rest =>
    cases reply with
    | pending => exact waits (.inr ⟨rest, rfl⟩)
    | answer a => exact answered a rest h

/-- The single transfer of a stage fails, or brings a response frame. -/
theorem InitReaches.leaves_transfer {f : Frame} (h : InitReaches s q events replies)
    (hq : initInFlight q = some (.xfer, [f])) (hp : initPhase q = .uninitialized ∨ initPhase q = .identified)
    (answered : ∀ r rest, InitReaches s q events (.answer (.ok [r]) :: rest) → InitLeaves s t) : InitLeaves s t := by
  refine h.leaves ht fun a rest h => ?_
  cases ha : answerOne a with
  | none => exact (init_transferAborts h hq ha).leaves ht hp
  | some r => exact answered r rest (answerOne_some ha ▸ h)

/-- The batch of a stage fails, or brings as many response frames. -/
theorem InitReaches.leaves_batch (h : InitReaches s q events replies)
    (hq : initInFlight q = some (.xferBatch, outs)) (hp : initPhase q = .uninitialized ∨ initPhase q = .identified)
    (answered : ∀ ins rest, ins.length = outs.length → InitReaches s q events (.answer (.ok ins) :: rest) → InitLeaves s t) :
    InitLeaves s t := by
  refine h.leaves ht fun a rest h => ?_
  cases ha : answerMany outs.length a with
  | none => exact (init_batchAborts h hq ha).leaves ht hp
  | some ins => exact answered ins rest (answerMany_length ha) (answerMany_some ha ▸ h)

variable (hs : Ready s)

include hs

theorem init_b2Leaves (h : InitReaches s .b2 events replies) : InitLeaves s t := by
  refine h.leaves_batch ht rfl (.inr rfl) fun ins rest hl h => ?_
  cases hv : validateWrite true ins with
  | error e => exact (init_b2Aborts h (hl.trans batch2_length) hv).leaves ht (.inr rfl)
  | ok _ => exact (init_b2Passes h (hl.trans batch2_length) hv).leaves ht hs

theorem init_delayLeaves (h : InitReaches s .delay events replies) : InitLeaves s t :=
  h.leaves ht fun _ _ h => init_b2Leaves ht hs (init_delayEnds h)

theorem init_b1Leaves (h : InitReaches s .b1 events replies) : InitLeaves s t := by
  refine h.leaves_batch ht rfl (.inr rfl) fun ins rest hl h => ?_
  cases hv : validateWrite true ins with
  | error e => exact (init_b1Aborts h (hl.trans batch1_length) hv).leaves ht (.inr rfl)
  | ok _ => exact init_delayLeaves ht hs (init_b1Passes h (hl.trans batch1_length) hv)

theorem init_ipidLeaves (h : InitReaches s .ipid events replies) : InitLeaves s t := by
  refine h.leaves_transfer ht rfl (.inl rfl) fun r rest h => ?_
  by_cases good : r.b0 = handshake
  · by_cases expected : r.b1 = ipidExpected
    · exact init_b1Leaves ht hs (init_ipidPasses h good expected)
    · exact (init_ipidMismatches h good expected).leaves ht (.inl rfl)
  · exact (init_ipidAborts h good).leaves ht (.inl rfl)

theorem init_pidLeaves (h : InitReaches s .pid events replies) : InitLeaves s t := by
  refine h.leaves_transfer ht rfl (.inl rfl) fun r rest h => ?_
  by_cases good : r.b0 = handshake
  · by_cases expected : r.b1 = pidExpected
    · exact init_ipidLeaves ht hs (init_pidPasses h good expected)
    · exact (init_pidMismatches h good expected).leaves ht (.inl rfl)
  · exact (init_pidAborts h good).leaves ht (.inl rfl)

theorem init_porLeaves (h : InitReaches s .por events replies) : InitLeaves s t := by
  refine h.leaves_transfer ht rfl (.inl rfl) fun r rest h => ?_
  by_cases good : r = ⟨handshake, handshake⟩
  · exact init_pidLeaves ht hs (init_porPasses h good)
  · exact (init_porAborts h good).leaves ht (.inl rfl)

end Leaves

/-- Settles O42: at each stage `INIT` waits, ends, or goes on to the next. -/
theorem initConfiguresOrMakesUnusable : Obligations.InitConfiguresOrMakesUnusable := by
  intro s t hs hp ht
  obtain ⟨channel, debug, outcome⟩ := init_porLeaves ht hs (init_reachesPor hs hp rfl)
  exact ⟨channel, debug, outcome⟩

end Sys2Proof.Proofs
end

section
/-! PROOFS. The kinds of errors a command can end with (spec/60_exceptions.md R126 to R130): what a returned call and the start of
a command can raise, followed through the run of an admitted command. -/

namespace Sys2Proof.Proofs

open Sys2Proof.Machine

variable {c : Instr} {e : ErrorRec} {s u : State}

/-! ### Ends with a listed error -/

/-- The table lets `c` end with a `TransportError`, whichever call fails (R126). -/
def MayFailInTransport (c : Instr) : Prop := ∀ call, canEndWith c (.transportError call) = true

/-- The table lets `c` end with an `UnexpectedHandshake`, whichever byte is bad (R127). -/
def MayFailHandshake (c : Instr) : Prop := ∀ k b got, canEndWith c (.unexpectedHandshake k b got) = true

/-- `c` is in progress in `u`, or is in no call any more and has left no error but one the table gives it. -/
inductive EndsAsListed (c : Instr) (u : State) : Prop
  | runs (cmd : u.cmd = some c)
  | ended (noCall : u.call = none) (listed : NothingRefused u → ∀ e, u.res = some (.err e) → canEndWith c e = true)

theorem listed_error (noCall : u.call = none) (res : u.res = some (.err e)) (h : canEndWith c e = true) : EndsAsListed c u := by
  refine .ended noCall fun _ e' he => ?_
  cases res.symm.trans he
  exact h

theorem listed_value {v : Value} (noCall : u.call = none) (res : u.res = some (.ok v)) : EndsAsListed c u :=
  .ended noCall fun _ _ he => by cases res.symm.trans he

theorem listed_refusal (noCall : u.call = none) (refused : u.refused = true) : EndsAsListed c u :=
  .ended noCall fun h => absurd (refused.symm.trans h) nofun

theorem listed_badRead {ins : List Frame} (hc : MayFailHandshake c) (bad : validateRead ins = .error e) :
    EndsAsListed c (raiseAccess e u) := by
  obtain ⟨j, got, rfl⟩ := validateReadFrom_error bad
  exact listed_error rfl rfl (hc _ _ _)

theorem listed_badWrite {ins : List Frame} {check1 : Bool} (hc : MayFailHandshake c)
    (bad : validateWrite check1 ins = .error e) : EndsAsListed c (raiseAccess e u) := by
  obtain ⟨j, b, got, rfl⟩ := validateWriteFrom_error bad
  exact listed_error rfl rfl (hc _ _ _)

/-! ### The register accesses and `RDSAMPLE` with their response frames -/

theorem rdregReturned_listed (a : Byte) (r : Frame) (u : State) : EndsAsListed (.rdreg a) (rdregReturned r u) := by
  unfold rdregReturned; dsimp only
  split
  next bad => exact listed_badRead (fun _ _ _ => rfl) bad
  · exact listed_value rfl rfl

theorem wrregReturned_listed (a v : Byte) (r : Frame) (u : State) : EndsAsListed (.wrreg a v) (wrregReturned v r u) := by
  unfold wrregReturned; dsimp only
  split
  next bad => exact listed_badWrite (fun _ _ _ => rfl) bad
  · exact listed_value rfl rfl

theorem rdregsReturned_listed (addrs : List Byte) (ins : List Frame) (u : State) :
    EndsAsListed (.rdregs addrs) (rdregsReturned ins u) := by
  unfold rdregsReturned; dsimp only
  split
  next bad => exact listed_badRead (fun _ _ _ => rfl) bad
  · exact listed_value rfl rfl

theorem wrregsReturned_listed (pairs : List (Byte × Byte)) (ins : List Frame) (u : State) :
    EndsAsListed (.wrregs pairs) (wrregsReturned ins u) := by
  unfold wrregsReturned; dsimp only
  split
  next bad => exact listed_badWrite (fun _ _ _ => rfl) bad
  · exact listed_value rfl rfl

theorem rdsampleReturned_listed (h : u.cmd = some .rdsample) (ins : List Frame) :
    EndsAsListed .rdsample (rdsampleReturned ins u) := by
  unfold rdsampleReturned; dsimp only
  split
  next bad => exact listed_badRead (fun _ _ _ => rfl) bad
  · split
    · exact listed_value rfl rfl
    · exact .runs h

/-! ### The stages of `INIT` -/

section Stages

theorem b2Returned_listed (ins : List Frame) (u : State) : EndsAsListed .init (b2Returned ins u) := by
  unfold b2Returned; dsimp only
  split
  next bad => exact listed_badWrite (fun _ _ _ => rfl) bad
  · exact listed_value rfl rfl

variable (h : u.cmd = some .init)

include h

theorem porReturned_listed (r : Frame) : EndsAsListed .init (porReturned r u) := by
  unfold porReturned; dsimp only
  split
  next bad => exact listed_badWrite (fun _ _ _ => rfl) bad
  · exact .runs h

theorem logIfDebug_cmd (item : LogItem) (v : Byte) : (logIfDebug item v u).cmd = some .init := by
  obtain ⟨hist, hl⟩ := logIfDebug_eq item v u
  rw [hl, h]

theorem pidReturned_listed (r : Frame) : EndsAsListed .init (pidReturned r u) := by
  unfold pidReturned; dsimp only
  split
  next bad => exact listed_badRead (fun _ _ _ => rfl) bad
  · split
    · exact listed_error rfl rfl rfl
    · exact .runs (logIfDebug_cmd (u := receive readOk [r] u) h _ _)

/-- The contract check of batch 1 never fails, so no violation is raised here (R109, assumption 2). -/
theorem ipidReturned_listed (r : Frame) : EndsAsListed .init (ipidReturned r u) := by
  unfold ipidReturned; dsimp only
  split
  next bad => exact listed_badRead (fun _ _ _ => rfl) bad
  · split
    · exact listed_error rfl rfl rfl
    · rw [enterB1_eq]
      exact .runs (logIfDebug_cmd (u := receive readOk [r] u) h _ _)

theorem b1Returned_listed (ins : List Frame) : EndsAsListed .init (b1Returned ins u) := by
  unfold b1Returned; dsimp only
  split
  next bad => exact listed_badWrite (fun _ _ _ => rfl) bad
  · exact .runs h

theorem initXferReturned_listed (r : Frame) : EndsAsListed .init (initXferReturned r u) := by
  unfold initXferReturned
  split
  · exact porReturned_listed h r
  · exact pidReturned_listed h r
  · exact ipidReturned_listed h r
  · exact .runs h

theorem initBatchReturned_listed (ins : List Frame) : EndsAsListed .init (initBatchReturned ins u) := by
  unfold initBatchReturned
  split
  · exact b1Returned_listed h ins
  · exact b2Returned_listed ins u
  · exact .runs h

end Stages

/-! ### A returned call -/

section Returned

theorem openReturned_listed {bus cs : Byte} (h : u.cmd = some (.openCh bus cs)) (a : Answer) :
    EndsAsListed (.openCh bus cs) (openReturned bus cs a u) := by
  unfold openReturned; dsimp only
  split
  · exact .runs h
  · exact listed_error rfl rfl rfl

theorem configureReturned_listed {bus cs : Byte} (h : u.cmd = some (.openCh bus cs)) (a : Answer) :
    EndsAsListed (.openCh bus cs) (configureReturned a u) := by
  unfold configureReturned; dsimp only
  split
  · exact listed_value rfl rfl
  · exact .runs h

variable (h : u.cmd = some c)

include h

theorem xferDelivered_listed (r : Frame) : EndsAsListed c (xferDelivered r u) := by
  rw [xferDelivered, h]
  cases c with
  | rdreg a => exact rdregReturned_listed a r u
  | wrreg a v => exact wrregReturned_listed a v r u
  | init => exact initXferReturned_listed h r
  | _ => exact .runs h

theorem batchDelivered_listed (ins : List Frame) : EndsAsListed c (batchDelivered ins u) := by
  rw [batchDelivered, h]
  cases c with
  | rdregs addrs => exact rdregsReturned_listed addrs ins u
  | wrregs pairs => exact wrregsReturned_listed pairs ins u
  | rdsample => exact rdsampleReturned_listed h ins
  | init => exact initBatchReturned_listed h ins
  | _ => exact .runs h

/-- `TOpen` or `TConfigure` returns to `OPEN` only (R101). -/
theorem handleCallReturned_listed {f : Byte → Byte → Answer → State → State} {a : Answer}
    (hf : ∀ bus cs, u.cmd = some (.openCh bus cs) → EndsAsListed (.openCh bus cs) (f bus cs a u)) :
    EndsAsListed c (handleCallReturned f a u) := by
  rw [handleCallReturned, h]
  cases c with
  | openCh bus cs => exact hf bus cs h
  | _ => exact .runs h

theorem releaseReturned_listed : EndsAsListed c (releaseReturned u) := by
  rw [releaseReturned, h]
  cases c with
  | openCh bus cs => exact listed_error rfl rfl rfl
  | closeCh => exact listed_value rfl rfl
  | _ => exact .runs h

/-- The contract check of batch 2 never fails either (R111, assumption 2). -/
theorem delayEnded_listed : EndsAsListed c (delayEnded u) := by
  rw [delayEnded, h]
  cases c with
  | init =>
    rw [delayReturned, enterB2_eq]
    exact .runs h
  | _ => exact .runs h

variable (hc : MayFailInTransport c)

include hc

theorem xferReturned_listed (a : Answer) : EndsAsListed c (xferReturned a u) := by
  unfold xferReturned
  split
  · exact .runs h
  · dsimp only
    split
    · exact listed_error rfl rfl (hc _)
    next r _ => exact xferDelivered_listed (u := record _ u) h r

theorem batchReturned_listed (a : Answer) : EndsAsListed c (batchReturned a u) := by
  unfold batchReturned; dsimp only
  split
  · exact listed_error rfl rfl (hc _)
  next ins _ => exact batchDelivered_listed (u := record _ u) h ins

theorem returned_listed (p : Pending) (a : Answer) : EndsAsListed c (returned p a u) := by
  have h' : (endCall u).cmd = some c := h
  cases p with
  | tOpen => exact handleCallReturned_listed h' fun _ _ ho => openReturned_listed ho a
  | tConfigure => exact handleCallReturned_listed h' fun _ _ ho => configureReturned_listed ho a
  | tRelease => exact releaseReturned_listed h'
  | xfer => exact xferReturned_listed h' hc a
  | xferBatch => exact batchReturned_listed h' hc a
  | delay => exact delayEnded_listed h'

end Returned

/-- Once `c` has ended no call is in progress, so nothing raises another error. -/
theorem endsAsListed_run (h : EndsAsListed c u) (hc : MayFailInTransport c) : EndsAsListed c (run u) := by
  refine drain_induction (P := EndsAsListed c) (fun u replies h => ?_) (fun u p a h hp => ?_) u.replies u h
  · cases h with
    | runs cmd => exact .runs cmd
    | ended noCall listed => exact .ended noCall listed
  · cases h with
    | runs cmd => exact returned_listed cmd hc p a
    | ended noCall listed => cases noCall.symm.trans hp

/-! ### An admitted command -/

/-- A start raises no error but the violation of an access with an address operand (R91, R92, R129). -/
theorem startOf_listed (c : Instr) (s : State) : EndsAsListed c (startOf c (begin c s)) := by
  cases c with
  | setdbg d =>
    dsimp only [startOf, startSetdbg]
    split
    · exact listed_refusal rfl rfl
    · exact listed_value rfl rfl
  | rdreg _ | wrreg _ _ | rdregs _ | wrregs _ =>
    dsimp only [startOf, startRdreg, startWrreg, startRdregs, startWrregs, startBatchRead, startBatchWrite]
    split
    · exact listed_error rfl rfl rfl
    · exact .runs rfl
  | init =>
    dsimp only [startOf, startInit]
    split
    · exact .runs rfl
    · exact listed_refusal rfl rfl
  | _ => exact .runs rfl

/-- `SETDBG` makes no transport call (R104). -/
theorem startSetdbg_noCall (d : Byte) (s : State) : (startSetdbg d (begin c s)).call = none := by
  unfold startSetdbg
  split <;> rfl

/-- `CLOSE` waits in its `TRelease`, or ends without an error when that returns: the release cannot fail (R103). -/
theorem close_listed (s : State) : EndsAsListed .closeCh (run (startClose (begin .closeCh s))) := by
  have waits (hu : Unanswered s) : EndsAsListed .closeCh (run (startClose (begin .closeCh s))) := by
    rw [run_unanswered (s := startClose (begin .closeCh s)) hu]
    exact .runs rfl
  cases hr : s.replies with
  | nil => exact waits (.inl hr)
  | cons reply rest =>
    cases reply with
    | pending => exact waits (.inr ⟨rest, hr⟩)
    | answer a =>
      rw [run, show (startClose (begin .closeCh s)).replies = .answer a :: rest from hr, drain_answer rfl, drain_noCall rfl]
      exact listed_value rfl rfl

/-- Every command but `CLOSE` and `SETDBG` can fail in its transport calls. -/
theorem admitted_listed (format : c.format = .cmd) (s : State) : EndsAsListed c (run (startOf c (begin c s))) := by
  have start := startOf_listed c s
  cases c with
  | closeCh => exact close_listed s
  | setdbg d => exact (run_noCall (startSetdbg_noCall (c := .setdbg d) d s)).symm ▸ start
  | rdf _ | wrf _ _ => cases format
  | _ => exact endsAsListed_run start fun _ => rfl

/-- Settles O56: a command that is admitted ends as listed, and one that is not is refused. -/
theorem errorKindsOfEachCommand : Obligations.ErrorKindsOfEachCommand := by
  intro i s t e format _ _ unrefused h noCommand res
  obtain ⟨r, -, rfl⟩ | ⟨-, rfl⟩ := command_cases ((exec_command format s).symm.trans h)
  · cases unrefused
  · cases admitted_listed format s with
    | runs cmd => cases cmd.symm.trans noCommand
    | ended _ listed => exact listed unrefused e res

end Sys2Proof.Proofs
end

section
/-! PROOFS. A transport call that never returns (spec/00_scope.md R13, R14, spec/70_reset_and_hazards.md R154, R155): only the
caller moves, and every string it presents is refused. -/

namespace Sys2Proof.Proofs

open Sys2Proof.Machine

variable {s t : State}

/-- A run of a machine begins with its first step. -/
theorem run_succ {M : Host.Core} {n : Nat} {s t : M.State} (h : M.run (n + 1) s = .next t) :
    ∃ u, M.step s = .next u ∧ M.run n u = .next t := by
  unfold Host.Core.run at h
  split at h
  next u hs => exact ⟨u, hs, h⟩
  · cases h
  · cases h

/-- `t` is `s` after the caller has used up byte strings and had the last of them refused. -/
def RefusedFrom (s t : State) : Prop := ∃ r presented, t = refuse r { s with presented := presented }

/-- A second refusal writes over the first. -/
theorem RefusedFrom.trans {u : State} (h : RefusedFrom s t) (h' : RefusedFrom t u) : RefusedFrom s u := by
  obtain ⟨r, presented, rfl⟩ := h
  obtain ⟨r', presented', rfl⟩ := h'
  exact ⟨r', presented', rfl⟩

/-- A string presented while a command is in progress is refused: it is no command, or not admitted (R80, R154). -/
theorem callerTurn_busy {bytes : List Byte} {later : List (List Byte)} (busy : s.cmd ≠ none)
    (hp : s.presented = bytes :: later) (h : callerTurn s = .next t) : RefusedFrom s t := by
  cases hd : decodeCmd bytes with
  | error e =>
    rw [callerTurn_rejected hp hd] at h
    cases h
    exact ⟨_, _, rfl⟩
  | ok d =>
    obtain ⟨c, rest⟩ := d
    rw [callerTurn_decoded hp hd, exec_command (decodeCmd_onlyCommands bytes c rest hd)] at h
    obtain ⟨r, -, rfl⟩ | ⟨admitted, -⟩ := command_cases h
    · exact ⟨r, _, rfl⟩
    · exact absurd (admitted_noCommand admitted) busy

/-- A command is in progress, and its call never returns. -/
structure Hung (s : State) : Prop where
  busy : s.cmd ≠ none
  inCall : s.call ≠ none
  noReply : s.replies = []

theorem hung_refusedFrom (h : Hung s) (hr : RefusedFrom s t) : Hung t := by
  obtain ⟨r, presented, rfl⟩ := hr
  exact ⟨h.busy, h.inCall, h.noReply⟩

theorem hung_step (h : Hung s) (hs : step s = .next t) : RefusedFrom s t := by
  obtain ⟨c, hc⟩ := Option.ne_none_iff_exists'.mp h.busy
  obtain ⟨p, hp⟩ := Option.ne_none_iff_exists'.mp h.inCall
  rw [step_inCall hc hp] at hs
  cases presented : s.presented with
  | nil => rw [waitTurn_hung p h.noReply presented] at hs; cases hs
  | cons bytes later =>
    rw [waitTurn_noAnswer p h.noReply presented] at hs
    exact callerTurn_busy h.busy presented hs

theorem hung_run {n : Nat} (h : Hung s) (hs : Host.Core.run Sys2Proof.core n s = .next t) : t = s ∨ RefusedFrom s t := by
  induction n generalizing s with
  | zero => cases hs; exact .inl rfl
  | succ n ih =>
    obtain ⟨u, hu, ht⟩ := run_succ hs
    have refused := hung_step h hu
    obtain rfl | more := ih (hung_refusedFrom h refused) ht
    · exact .inr refused
    · exact .inr (refused.trans more)

/-- Settles O48: by induction on the steps, all that has happened is a refusal. -/
theorem hungTransportLeavesTheRacBusy : Obligations.HungTransportLeavesTheRacBusy := by
  intro n s t busy inCall noReply hs
  obtain rfl | ⟨r, presented, rfl⟩ := hung_run ⟨busy, inCall, noReply⟩ hs
  · exact ⟨rfl, rfl, rfl, rfl, rfl, rfl, .refl t, .inl rfl⟩
  · exact ⟨rfl, rfl, rfl, rfl, rfl, rfl, ⟨⟨rfl, rfl, rfl⟩, rfl, rfl, rfl⟩, .inr rfl⟩

end Sys2Proof.Proofs
end

section
/-! PROOFS. What a command costs and how long it takes (spec/00_scope.md R14, spec/70_reset_and_hazards.md R156, R160): how
many calls of a command are still to return, and what its events cost when it ends with a result, followed backwards from the last
call of each command to its start. -/

namespace Sys2Proof.Proofs

open Sys2Proof.Machine

variable {s t u : State} {c : Instr} {q : Seq} {p : Pending} {outs : List Frame} {spent total : Nat × Nat × Nat} {n : Nat}

/-! ### The cost of events -/

theorem cost_append (h h' : List Event) : cost (h ++ h') = cost h + cost h' := by
  simp [cost, framesSent_append]

theorem cost_batch (outs : List Frame) (ans : Option (List Frame)) : cost [.xferBatch outs ans] = (1, outs.length, 0) := by
  simp [cost, framesSent, Event.frames, Event.isCall, Event.isDelay]

/-- The events appended to the history between `s` and `u` cost `spent`. -/
def Spends (s u : State) (spent : Nat × Nat × Nat) : Prop := ∃ events, u.hist = s.hist ++ events ∧ cost events = spent

theorem Spends.record (h : Spends s u spent) (e : Event) : Spends s (record e u) (spent + cost [e]) := by
  obtain ⟨events, hist, rfl⟩ := h
  exact ⟨events ++ [e], by rw [record_hist, hist, List.append_assoc], cost_append events [e]⟩

/-- Debug output is no transport call and no delay (R116, R160). -/
theorem Spends.logIfDebug (h : Spends s u spent) (item : LogItem) (v : Byte) : Spends s (logIfDebug item v u) spent := by
  unfold Machine.logIfDebug
  split
  · exact h.record _
  · exact h

/-! ### A command that ends -/

/-- The command in progress in `u` has ended when `n` more calls have returned, however they do; if it ends with a result, what
it has done since `s` costs `total`. -/
inductive EndsWithin (s : State) (total : Nat × Nat × Nat) : Nat → State → Prop
  | ended {n : Nat} {u : State} (noCommand : u.cmd = none) (noCall : u.call = none)
      (spends : NothingRefused u → ∀ v, u.res = some (.ok v) → Spends s u total) : EndsWithin s total n u
  | waits {n : Nat} {u : State} {p : Pending} (busy : u.cmd ≠ none) (call : u.call = some p)
      (returns : ∀ a, EndsWithin s total n (returned p a u)) : EndsWithin s total (n + 1) u

/-- A command that has ended in a run of the answers has cost what it should. -/
theorem EndsWithin.spends {v : Value} (h : EndsWithin s total n u) (replies : List Reply)
    (noCommand : (drain replies u).cmd = none) (unrefused : NothingRefused (drain replies u))
    (res : (drain replies u).res = some (.ok v)) : Spends s (drain replies u) total := by
  induction h generalizing replies with
  | ended _ noCall spends =>
    rw [drain_noCall noCall] at unrefused res ⊢
    exact spends unrefused v res
  | waits busy call _ ih =>
    cases replies with
    | nil => exact absurd noCommand busy
    | cons r rest =>
      cases r with
      | pending => rw [drain_pending] at noCommand; exact absurd noCommand busy
      | answer a =>
        rw [drain_answer call] at noCommand unrefused res ⊢
        exact ih a rest noCommand unrefused res

/-- If every call returns, and there are answers enough, the command ends. -/
theorem EndsWithin.ends (h : EndsWithin s total n u) {replies : List Reply} (enough : n ≤ replies.length)
    (answers : ∀ r ∈ replies, ∃ a, r = .answer a) : (drain replies u).cmd = none := by
  induction h generalizing replies with
  | ended noCommand noCall _ => rw [drain_noCall noCall]; exact noCommand
  | waits busy call _ ih =>
    cases replies with
    | nil => cases enough
    | cons r rest =>
      obtain ⟨⟨a, rfl⟩, more⟩ := List.forall_mem_cons.mp answers
      rw [drain_answer call]
      exact ih a (Nat.le_of_succ_le_succ enough) more

theorem endsWithin_error {e : ErrorRec} (noCommand : u.cmd = none) (noCall : u.call = none) (res : u.res = some (.err e)) :
    EndsWithin s total n u :=
  .ended noCommand noCall fun _ _ ok => by cases res.symm.trans ok

theorem endsWithin_refusal (noCommand : u.cmd = none) (noCall : u.call = none) (refused : u.refused = true) :
    EndsWithin s total n u :=
  .ended noCommand noCall fun h => absurd (refused.symm.trans h) nofun

/-- An access has ended with the outcome of its response frames (R85, R86). -/
theorem endsWithin_endAccess (h : Spends s u total) (r : Result) (good : Frame → Bool) (ins : List Frame) :
    EndsWithin s total n (endAccess r (receive good ins u)) := by
  cases r with
  | ok v => exact .ended rfl rfl fun _ _ _ => h
  | err e => exact endsWithin_error rfl rfl rfl

/-! ### A command that waits -/

/-- Command `c` waits at stage `q` in the call `p` with the frames `outs`; what it has done since `s` costs `spent`. -/
structure Awaits (s : State) (c : Instr) (q : Seq) (p : Pending) (outs : List Frame) (spent : Nat × Nat × Nat) (u : State) :
    Prop where
  cmd : u.cmd = some c
  seq : u.seq = q
  call : u.call = some p
  outbuf : u.outbuf = outs
  spends : Spends s u spent

/-- The call has returned and its event is appended. -/
theorem Awaits.recorded (h : Awaits s c q p outs spent u) (e : Event) : Spends s (record e (endCall u)) (spent + cost [e]) :=
  Spends.record (u := endCall u) h.spends e

theorem Awaits.endsWithin (h : Awaits s c q p outs spent u) (returns : ∀ a, EndsWithin s total n (returned p a u)) :
    EndsWithin s total (n + 1) u :=
  .waits (by rw [h.cmd]; nofun) h.call returns

/-- A single transfer fails and ends the command, or delivers its response frame at the cost of one call and one frame. -/
theorem Awaits.transfer {f : Frame} (h : Awaits s c q .xfer [f] spent u)
    (delivered : ∀ r t, t.cmd = some c → t.seq = q → Spends s t (spent + (1, 1, 0)) →
      EndsWithin s total n (xferDelivered r t)) : EndsWithin s total (n + 1) u := by
  refine h.endsWithin fun a => ?_
  obtain ha | ⟨r, ha⟩ := returned_xfer_cases h.outbuf a <;> rw [ha]
  · exact endsWithin_error rfl rfl rfl
  · exact delivered r _ h.cmd h.seq (h.recorded _)

/-- A batch fails and ends the command, or delivers its response frames at the cost of one call and its frames. -/
theorem Awaits.batch {k : Nat} (h : Awaits s c q .xferBatch outs spent u) (hl : outs.length = k)
    (delivered : ∀ ins t, ins.length = k → t.cmd = some c → t.seq = q → Spends s t (spent + (1, k, 0)) →
      EndsWithin s total n (batchDelivered ins t)) : EndsWithin s total (n + 1) u := by
  subst hl
  refine h.endsWithin fun a => ?_
  obtain ha | ⟨ins, hins, ha⟩ := returned_batch_cases h.outbuf a <;> rw [ha]
  · exact endsWithin_error rfl rfl rfl
  · exact delivered ins _ hins h.cmd h.seq (cost_batch outs (some ins) ▸ h.recorded _)

/-! ### `OPEN` and `CLOSE` -/

section Open

variable {bus cs : Byte}

/-- The release of a channel that was not configured ends `OPEN` with an error, whatever was spent (R101). -/
theorem openRelease_endsWithin (h : Awaits s (.openCh bus cs) q .tRelease outs spent u) : EndsWithin s total (n + 1) u := by
  refine h.endsWithin fun a => ?_
  have ends : returned .tRelease a u = openReleased (endCall u) := releaseReturned_open (s := endCall u) h.cmd
  rw [ends]
  exact endsWithin_error rfl rfl rfl

theorem configure_endsWithin (h : Awaits s (.openCh bus cs) q .tConfigure outs (1, 0, 0) u) :
    EndsWithin s (2, 0, 0) (n + 2) u := by
  refine h.endsWithin fun a => ?_
  have goesOn : returned .tConfigure a u = configureReturned a (endCall u) :=
    handleCallReturned_open (s := endCall u) h.cmd _ a
  rw [goesOn]
  cases a with
  | ok ins => exact .ended rfl rfl fun _ _ _ => h.recorded (.configured xcfgConst true)
  | fail =>
    rw [configureReturned_fail]
    exact openRelease_endsWithin ⟨h.cmd, h.seq, rfl, h.outbuf, h.recorded _⟩

theorem open_endsWithin (h : Awaits s (.openCh bus cs) q .tOpen outs 0 u) : EndsWithin s (2, 0, 0) (n + 3) u := by
  refine h.endsWithin fun a => ?_
  have goesOn : returned .tOpen a u = openReturned bus cs a (endCall u) := handleCallReturned_open (s := endCall u) h.cmd _ a
  rw [goesOn]
  cases a with
  | ok ins =>
    rw [openReturned_ok]
    exact configure_endsWithin ⟨h.cmd, h.seq, rfl, h.outbuf, h.recorded (.opened bus cs true)⟩
  | fail => exact endsWithin_error rfl rfl rfl

end Open

theorem close_endsWithin (h : Awaits s .closeCh q .tRelease outs 0 u) : EndsWithin s (1, 0, 0) (n + 1) u := by
  refine h.endsWithin fun a => ?_
  have ends : returned .tRelease a u = closeReleased (endCall u) := releaseReturned_close (s := endCall u) h.cmd
  rw [ends]
  exact .ended rfl rfl fun _ _ _ => h.recorded .released

/-! ### The register accesses and `RDSAMPLE` -/

theorem rdregReturned_endAccess (r : Frame) (u : State) :
    rdregReturned r u = endAccess (readResult r) (receive readOk [r] u) := by
  rw [rdregReturned_eq, readResult]
  split <;> rfl

theorem wrregReturned_endAccess (v : Byte) (r : Frame) (u : State) :
    wrregReturned v r u = endAccess (writeResult v r) (receive (writeOk true) [r] u) := by
  rw [wrregReturned_eq, writeResult]
  split_ifs <;> rfl

theorem rdreg_endsWithin {a : Byte} {f : Frame} (h : Awaits s (.rdreg a) q .xfer [f] 0 u) :
    EndsWithin s (1, 1, 0) (n + 1) u :=
  h.transfer fun r t hc _ spends => by
    rw [xferDelivered_rdreg hc, rdregReturned_endAccess]
    exact endsWithin_endAccess spends _ _ _

theorem wrreg_endsWithin {a v : Byte} {f : Frame} (h : Awaits s (.wrreg a v) q .xfer [f] 0 u) :
    EndsWithin s (1, 1, 0) (n + 1) u :=
  h.transfer fun r t hc _ spends => by
    rw [xferDelivered_wrreg hc, wrregReturned_endAccess]
    exact endsWithin_endAccess spends _ _ _

theorem rdregs_endsWithin {addrs : List Byte} (h : Awaits s (.rdregs addrs) q .xferBatch (readFrames addrs) 0 u) :
    EndsWithin s (1, addrs.length, 0) (n + 1) u :=
  h.batch (readFrames_length addrs) fun ins t _ hc _ spends => by
    rw [batchDelivered_rdregs hc, rdregsReturned_eq]
    rw [zero_add] at spends
    exact endsWithin_endAccess spends _ _ _

theorem wrregs_endsWithin {pairs : List (Byte × Byte)}
    (h : Awaits s (.wrregs pairs) q .xferBatch (writeFrames pairs) 0 u) :
    EndsWithin s (1, pairs.length, 0) (n + 1) u :=
  h.batch (writeFrames_length pairs) fun ins t _ hc _ spends => by
    rw [batchDelivered_wrregs hc, wrregsReturned_eq]
    rw [zero_add] at spends
    exact endsWithin_endAccess spends _ _ _

theorem rdsample_endsWithin (h : Awaits s .rdsample q .xferBatch (readFrames motionRegs) 0 u) :
    EndsWithin s (1, 5, 0) (n + 1) u :=
  h.batch (k := 5) rfl fun ins t hl hc _ spends => by
    rw [batchDelivered_rdsample hc, rdsampleReturned_eq hl]
    exact endsWithin_endAccess spends _ _ _

/-! ### The stages of `INIT`, the last one first -/

theorem b2_endsWithin (h : Awaits s .init .b2 .xferBatch (writeFrames batch2) (4, 58, 1) u) :
    EndsWithin s (5, 72, 1) (n + 1) u :=
  h.batch batch2_length fun ins t _ hc hq spends => by
    rw [batchDelivered_b2 hc hq]
    cases hv : validateWrite true ins with
    | error e => rw [b2Returned_bad hv]; exact endsWithin_error rfl rfl rfl
    | ok _ => rw [b2Returned_good hv]; exact .ended rfl rfl fun _ _ _ => spends

theorem delay_endsWithin (h : Awaits s .init .delay .delay outs (4, 58, 0) u) : EndsWithin s (5, 72, 1) (n + 2) u := by
  refine h.endsWithin fun a => ?_
  have goesOn : returned .delay a u = delayReturned (endCall u) := delayEnded_init (s := endCall u) h.cmd
  rw [goesOn, delayReturned, enterB2_eq]
  exact b2_endsWithin ⟨h.cmd, rfl, rfl, rfl, h.recorded (.delayed settleMs)⟩

theorem b1_endsWithin (h : Awaits s .init .b1 .xferBatch (writeFrames batch1) (3, 3, 0) u) :
    EndsWithin s (5, 72, 1) (n + 3) u :=
  h.batch batch1_length fun ins t _ hc hq spends => by
    rw [batchDelivered_b1 hc hq]
    cases hv : validateWrite true ins with
    | error e => rw [b1Returned_bad hv]; exact endsWithin_error rfl rfl rfl
    | ok _ => rw [b1Returned_good hv]; exact delay_endsWithin ⟨hc, rfl, rfl, rfl, spends⟩

theorem ipid_endsWithin {f : Frame} (h : Awaits s .init .ipid .xfer [f] (2, 2, 0) u) :
    EndsWithin s (5, 72, 1) (n + 4) u :=
  h.transfer fun r t hc hq spends => by
    rw [xferDelivered_ipid hc hq]
    by_cases good : r.b0 = handshake
    · rw [ipidReturned_good good]
      split
      · exact endsWithin_error rfl rfl rfl
      · rw [enterB1_eq]
        exact b1_endsWithin ⟨logIfDebug_cmd (u := receive readOk [r] t) hc _ _, rfl, rfl, rfl,
          Spends.logIfDebug (u := receive readOk [r] t) spends _ _⟩
    · rw [ipidReturned_bad good]
      exact endsWithin_error rfl rfl rfl

theorem pid_endsWithin {f : Frame} (h : Awaits s .init .pid .xfer [f] (1, 1, 0) u) :
    EndsWithin s (5, 72, 1) (n + 5) u :=
  h.transfer fun r t hc hq spends => by
    rw [xferDelivered_pid hc hq]
    by_cases good : r.b0 = handshake
    · rw [pidReturned_good good]
      split
      · exact endsWithin_error rfl rfl rfl
      · exact ipid_endsWithin ⟨logIfDebug_cmd (u := receive readOk [r] t) hc _ _, rfl, rfl, rfl,
          Spends.logIfDebug (u := receive readOk [r] t) spends _ _⟩
    · rw [pidReturned_bad good]
      exact endsWithin_error rfl rfl rfl

theorem por_endsWithin {f : Frame} (h : Awaits s .init .por .xfer [f] 0 u) :
    EndsWithin s (5, 72, 1) (n + 6) u :=
  h.transfer fun r t hc hq spends => by
    rw [xferDelivered_por hc hq]
    by_cases good : r = ⟨handshake, handshake⟩
    · rw [porReturned_good good]
      exact pid_endsWithin ⟨hc, rfl, rfl, rfl, spends⟩
    · rw [porReturned_bad good]
      exact endsWithin_error rfl rfl rfl

/-! ### An admitted command -/

theorem spends_nothing (hist : u.hist = s.hist) : Spends s u 0 := ⟨[], by rw [hist, List.append_nil], rfl⟩

/-- The first call of an admitted command waits with nothing spent yet. -/
theorem awaits_first (c : Instr) (s : State) (p : Pending) (outs : List Frame) :
    Awaits s c (firstStage c) p outs 0 (issue p { begin c s with outbuf := outs }) :=
  ⟨rfl, rfl, rfl, rfl, spends_nothing rfl⟩

/-- Every admitted command has ended when six calls have returned, the delay counted: `INIT` makes that many (R105, R160). -/
theorem startOf_endsWithin (format : c.format = .cmd) (s : State) :
    EndsWithin s (costOf c) 6 (startOf c (begin c s)) := by
  cases c with
  | openCh bus cs => exact open_endsWithin (awaits_first (.openCh bus cs) s .tOpen s.outbuf)
  | closeCh => exact close_endsWithin (awaits_first .closeCh s .tRelease s.outbuf)
  | setdbg d =>
    dsimp only [startOf, startSetdbg]
    split
    · exact endsWithin_refusal rfl rfl rfl
    · exact .ended rfl rfl fun _ _ _ => spends_nothing rfl
  | rdreg a =>
    dsimp only [startOf, startRdreg]
    split
    · exact endsWithin_error rfl rfl rfl
    · exact rdreg_endsWithin (awaits_first (.rdreg a) s .xfer _)
  | wrreg a v =>
    dsimp only [startOf, startWrreg]
    split
    · exact endsWithin_error rfl rfl rfl
    · exact wrreg_endsWithin (awaits_first (.wrreg a v) s .xfer _)
  | rdregs addrs =>
    dsimp only [startOf, startRdregs, startBatchRead]
    split
    · exact endsWithin_error rfl rfl rfl
    · exact rdregs_endsWithin (awaits_first (.rdregs addrs) s .xferBatch _)
  | wrregs pairs =>
    dsimp only [startOf, startWrregs, startBatchWrite]
    split
    · exact endsWithin_error rfl rfl rfl
    · exact wrregs_endsWithin (awaits_first (.wrregs pairs) s .xferBatch _)
  | init =>
    dsimp only [startOf, startInit]
    split
    · exact por_endsWithin (awaits_first .init s .xfer _)
    · exact endsWithin_refusal rfl rfl rfl
  | rdsample => exact rdsample_endsWithin (awaits_first .rdsample s .xferBatch _)
  | rdf _ | wrf _ _ => cases format

/-- A start uses up no answer. -/
theorem startOf_replies (c : Instr) (s : State) : (startOf c s).replies = s.replies := by
  cases c with
  | setdbg _ | rdreg _ | wrreg _ _ | rdregs _ | wrregs _ | init =>
    dsimp only [startOf, startSetdbg, startRdreg, startWrreg, startRdregs, startWrregs, startInit, startBatchRead,
      startBatchWrite]
    split <;> rfl
  | _ => rfl

/-- Settles O36: a refused command is left out, and an admitted one that has ended with a result has spent the cost of all its
calls. -/
theorem commandCosts : Obligations.CommandCosts := by
  intro i s t v format _ _ unrefused h noCommand res
  obtain ⟨r, -, rfl⟩ | ⟨-, rfl⟩ := command_cases ((exec_command format s).symm.trans h)
  · cases unrefused
  · exact (startOf_endsWithin format s).spends _ noCommand unrefused res

/-- Settles O49: a refused command leaves none in progress, and six answers end an admitted one. -/
theorem commandsEndWhenCallsReturn : Obligations.CommandsEndWhenCallsReturn := by
  intro i s format noCommand enough answers
  obtain ⟨t, h⟩ := exec_command_next format s
  refine ⟨t, h, ?_⟩
  obtain ⟨r, -, rfl⟩ | ⟨-, rfl⟩ := command_cases ((exec_command format s).symm.trans h)
  · exact noCommand
  · have replies := startOf_replies i (begin i s)
    exact (startOf_endsWithin format s).ends (by rw [replies]; exact enough) (by rw [replies]; exact answers)

end Sys2Proof.Proofs
end
